-- ==== Sys2Proof/Word.lean ====
section
/-! DEFINITION. The word types of the BCG4410: bytes on the link, 32-bit words, and the numbers that name ports,
queues and cells. -/

namespace Sys2Proof

/-- A byte on the host link (10 R160). -/
abbrev Byte := BitVec 8

/-- A 32-bit word: a signal, a correlation word, a time base value (07 R121, 03 R49, 04 R66). -/
abbrev Word := BitVec 32

/-- A host port, Port 0 to Port 3 (00 section 5.1). -/
abbrev Port := Fin 4

/-- A queue id, Queue 0 to Queue 31 (00 section 5.1). -/
abbrev QueueId := Fin 32

/-- A cell of the pool (01 R1). -/
abbrev CellId := Fin 4096

end Sys2Proof
end

