-- ==== Sys2Proof/Config.lean ====
section
/-! DEFINITION. The quantities of the part (00 section 1.2, 01 R1) and the values the spec leaves open. -/

namespace Sys2Proof.Config

/-- The pool holds 4096 cells (01 R1). -/
def cellCount : Nat := 4096

/-- A cell holds 64 bytes (01 R1). -/
def cellSize : Nat := 64

/-- Leases one port may hold (04 R68). -/
def leaseLimit : Nat := 16

/-- Ordinary entries one notification queue may hold (06 R110). -/
def entryLimit : Nat := 31

/-- Entries one Poll returns at most (06 R114). -/
def pollLimit : Nat := 4

/-- Bytes one Take, Read, Put or PutData carries at most (10 section 10.7.2). -/
def chunkLimit : Nat := 256

/-- Largest payload of a frame (10 R163). -/
def payloadLimit : Nat := 288

/-- DESIGN CHOICE (assumption 6), unsafe: what a cell byte that nothing has written reads as. The spec gives no
contents; no unwritten byte is ever delivered (01 R1, 03 R56). -/
def blankByte : Byte := 0

end Sys2Proof.Config
end

