-- ==== Sys2Proof/Syntax.lean ====
section
/-! DEFINITION. The commands the part takes: one constructor of `Instr` for each row of the opcode table, with the
operands a happening of that row has. A row that covers several happenings says by a step operand which one it is
(DESIGN CHOICE, assumption 1); a command whose happening does not stand leaves the state as it is (DESIGN CHOICE,
assumption 2). -/

namespace Sys2Proof

/-- The 27 requests a master can send (10 section 10.8). -/
inductive Req where
  | attach | detach | nop | put | putOpen | putData | putCommit | putAbort | take
  | read | settle | extend | poll | signal | readSignals | claim | release | defineQueue
  | setQueue | closeQueue | purgeQueue | setBudget | setKeepAlive | resetPool | queueStatus | portStatus | poolStatus
  deriving DecidableEq, Repr

/-- A good request frame but for its request code, which the row gives (10 R163, section 10.7.1). -/
structure Frame where
  tag     : Byte
  retry   : Bool
  payload : List Byte
  deriving DecidableEq, Repr

/-- The shared blocks behind the four port controllers (00 section 2). -/
inductive Block where
  | config | pool | queue | lease | notify
  deriving DecidableEq, Repr

/-- The places a PortStatus or a PoolStatus queries (11 R173, R174). -/
inductive Place where
  | controller | config | pool | lease | notify
  deriving DecidableEq, Repr

/-- The happenings of a request that one shared block owns: the end of its frame at the port controller (08 R132),
and its taking by the owner. -/
inductive ReqStep where
  | frame (p : Port) (f : Frame)
  | taken (p : Port)
  deriving DecidableEq, Repr

/-- The happenings of a configuration request (09 R152): the end of its frame at the port controller, the claim check
at the configuration unit, and its taking by the block that owns the setting. -/
inductive CfgStep where
  | frame (p : Port) (f : Frame)
  | checked (p : Port)
  | applied
  deriving DecidableEq, Repr

/-- The happenings of a response read (10 R160, R167): SEL is asserted, the first byte 0x00 has been clocked, and SEL is
deasserted after `clocked` further bytes. A deassertion before a whole first byte is given by `deselect` too. -/
inductive ReadStep where
  | select
  | firstByte
  | deselect (clocked : Nat)
  deriving DecidableEq, Repr

/-- The happenings that begin a request transaction (10 R160, R162): SEL is asserted, and the first byte has been
clocked. The assertion is the same happening as that of `ReadStep`: the kind of the transaction is not known then. -/
inductive FirstStep where
  | select
  | byte (code : Byte)
  deriving DecidableEq, Repr

/-- The two happenings of an allocation request (01 R9): it comes to stand at the pool manager, and the arbiter takes
one of the requests that stand there (DEDUCED, assumption 8). -/
inductive AllocStep where
  | arrives
  | taken
  deriving DecidableEq, Repr

/-- The commands: the 80 steps of the opcode table, in its order. -/
inductive Instr where
  /-- 08 R134, R135: an Attach frame ends. -/
  | attach (p : Port) (f : Frame)
  /-- 08 R137: a Detach frame ends. -/
  | detach (p : Port) (f : Frame)
  /-- 08 R138: a Nop frame ends. -/
  | nop (p : Port) (f : Frame)
  /-- 03 R58: a single-frame Put. -/
  | put (h : ReqStep)
  /-- 03 R50: a PutOpen. -/
  | putOpen (h : ReqStep)
  /-- 03 R53: a PutData. -/
  | putData (h : ReqStep)
  /-- 03 R55, R56: a PutCommit. -/
  | putCommit (h : ReqStep)
  /-- 03 R57: a PutAbort. -/
  | putAbort (h : ReqStep)
  /-- 04 R70: a Take. -/
  | take (h : ReqStep)
  /-- 04 R75, R76: a Read. -/
  | read (h : ReqStep)
  /-- 04 R77 to R79: a Settle. -/
  | settle (h : ReqStep)
  /-- 04 R80: an Extend. -/
  | extend (h : ReqStep)
  /-- 06 R114: a Poll. -/
  | poll (h : ReqStep)
  /-- 07 R122: a Signal. -/
  | signal (h : ReqStep)
  /-- 07 R124: a ReadSignals. -/
  | readSignals (h : ReqStep)
  /-- 09 R148: a Claim. -/
  | claim (h : ReqStep)
  /-- 09 R149: a Release. -/
  | release (h : ReqStep)
  /-- 02 R25 to R27: a DefineQueue. -/
  | defineQueue (h : CfgStep)
  /-- 02 R43, R44: a SetQueue. -/
  | setQueue (h : CfgStep)
  /-- 02 R37: a CloseQueue. -/
  | closeQueue (h : CfgStep)
  /-- 02 R39, R40: a PurgeQueue. -/
  | purgeQueue (h : CfgStep)
  /-- 01 R14, R15: a SetBudget. -/
  | setBudget (h : CfgStep)
  /-- 09 R154: a SetKeepAlive; the configuration unit is its owner. -/
  | setKeepAlive (h : ReqStep)
  /-- 09 R155: a ResetPool; the configuration unit takes it, and `resetStart` follows at the pool manager. -/
  | resetPool (h : ReqStep)
  /-- 11 R176: a QueueStatus. -/
  | queueStatus (h : ReqStep)
  /-- 11 R174: a PortStatus frame ends and the five queries are sent. -/
  | portStatus (p : Port) (f : Frame)
  /-- 11 R173: a PoolStatus frame ends and the two queries are sent. -/
  | poolStatus (p : Port) (f : Frame)
  /-- 11 R173, R174: a place takes the status query of the port `requester`. -/
  | statusQuery (requester : Port) (place : Place)
  /-- 10 R163: a frame, given as the bytes received, ends and is found bad. -/
  | badFrame (p : Port) (bytes : List Byte)
  /-- 10 R164: a good frame with an undefined request code ends. -/
  | unknownRequest (p : Port) (code : Byte) (f : Frame)
  /-- 10 R165: an overrun frame, given as the bytes received, ends. -/
  | overrunFrame (p : Port) (bytes : List Byte)
  /-- 10 R167: a response read. -/
  | responseRead (p : Port) (h : ReadStep)
  /-- 08 R133: the answer of an owner, or a part of a status answer, is taken at the port controller. -/
  | ownerAnswer (p : Port)
  /-- 10 R172: RESET goes low, or power comes up. -/
  | deviceReset
  /-- 08 R145: PRST of the port is asserted. -/
  | prstAssert (p : Port)
  /-- 08 R146: PRST of the port is released. -/
  | prstRelease (p : Port)
  /-- 08 R139: the tick that runs the keep-alive timer out. -/
  | keepAliveTimeout (p : Port)
  /-- 09 R150: the configuration unit takes the session-end announcement of the port. -/
  | configSessionEnd (p : Port)
  /-- 03 R60, R61, 01 R19: the pool manager takes it. -/
  | poolSessionEnd (p : Port)
  /-- 02 R42: the queue engine takes it. -/
  | queueSessionEnd (p : Port)
  /-- 04 R84: the lease manager takes it. -/
  | leaseSessionEnd (p : Port)
  /-- 06 R118, 07 R126: the notification unit takes it. -/
  | notifySessionEnd (p : Port)
  /-- 08 R143: the port controller takes the cleanup report of a block. -/
  | cleanupReport (p : Port) (b : Block)
  /-- 06 R116: the notification unit takes the Attach announcement. -/
  | notifyAttach (p : Port)
  /-- 08 R134: the port controller takes the report that the notification queue is enabled. -/
  | notifyEnabledReport (p : Port)
  /-- 06 R116: the queue engine takes the Attach announcement. -/
  | queueAttach (p : Port)
  /-- 04 R69: the lease manager takes the Attach announcement. -/
  | leaseAttach (p : Port)
  /-- 08 R134: the pool manager takes the Attach announcement. -/
  | poolAttach (p : Port)
  /-- 08 R134: the port controller takes the Attach report of a block. -/
  | attachReport (p : Port) (b : Block)
  /-- 08 R140: the port controller takes a new keep-alive setting. -/
  | keepAliveSetting (p : Port)
  /-- 09 R154: the configuration unit takes the report of the named port's controller. -/
  | keepAliveTakenReport (p : Port)
  /-- 02 R31: the queue engine takes the queue checks of a PutOpen or Put. -/
  | queueChecks
  /-- 03 R51: the pool manager takes a refusal of queue checks. -/
  | queueCheckRefusal
  /-- 01 R7 to R9: an allocation request comes to stand at the pool manager, or is taken by the arbiter. -/
  | allocationRequest (h : AllocStep)
  /-- 01 R11: the pool manager takes a release sent by the block. -/
  | releaseRequest (src : Block)
  /-- 02 R33: the queue engine takes a commit. -/
  | commit
  /-- 03 R56: the pool manager takes the answer to a commit. -/
  | commitAnswer
  /-- 02 R32: the queue engine takes a pending decrement. -/
  | pendingDecrement
  /-- 02 R29: the queue engine takes a head removal. -/
  | headRemoval
  /-- 04 R71, R72, R86: the lease manager takes the answer to a head removal. -/
  | headRemovalAnswer
  /-- 02 R34: the queue engine takes a reinsertion. -/
  | reinsertion
  /-- 02 R34: the queue engine takes a leased decrement. -/
  | leasedDecrement
  /-- 02 R35: the queue engine takes a dead-letter request. -/
  | deadLetterRequest
  /-- 05 R96, R97, R100, R101: the lease manager takes the answer to a dead-letter request. -/
  | deadLetterAnswer
  /-- 04 R82: the lease manager takes a purge-mark request. -/
  | purgeMarkRequest
  /-- 05 R89: the lease manager takes a settings notice. -/
  | settingsNotice
  /-- 05 R94: the advance of the time base that reaches the deadline of the lease `id` of the port. -/
  | leaseExpiry (p : Port) (id : Nat)
  /-- 01 R16, R19: the pool manager takes a ResetPool. -/
  | resetStart
  /-- 04 R85: the lease manager takes the clearing order. -/
  | leaseClearingOrder
  /-- 02 R45: the queue engine takes the clearing order. -/
  | queueClearingOrder
  /-- 02 R45: the queue engine takes the lease manager's cancellation notice. -/
  | cancellationNotice
  /-- 01 R17: the pool manager takes the cleared report of the block. -/
  | clearedReport (src : Block)
  /-- 02 R46: the queue engine takes the completion announcement. -/
  | queueResetCompletion
  /-- 04 R86: the lease manager takes the completion announcement. -/
  | leaseResetCompletion
  /-- 09 R157: the configuration unit takes a completion report. -/
  | completionReport
  /-- 06 R110: the notification unit takes a post sent by the block. -/
  | post (src : Block)
  /-- 04 R66: the time base advances. -/
  | timeBaseAdvance
  /-- 08 R139: the millisecond tick of the port's controller. -/
  | keepAliveTick (p : Port)
  /-- 10 R172: RESET is released. -/
  | resetRelease
  /-- 10 R162: the first byte of a request transaction is taken. -/
  | requestFirstByte (p : Port) (h : FirstStep)
  deriving DecidableEq, Repr

end Sys2Proof
end

