-- ==== Sys2Proof/Decode.lean ====
section
/-! DEFINITION. Request frames as bytes on the link: the request codes, the CRC, the judgement of a frame (10 R163)
and its encoder; and the host's `decodeTableWord`, which answers none, since no row of the table has bits. -/

namespace Sys2Proof

/-- No row of the opcode table gives a bit, so no word spells a command (assumption 25). -/
def decodeTableWord (_nbits _w : Nat) : Option Instr := none

/-- The request codes of 10 section 10.8. -/
def Req.code : Req → Byte
  | .attach => 0x01 | .detach => 0x02 | .nop => 0x03 | .put => 0x04 | .putOpen => 0x05 | .putData => 0x06
  | .putCommit => 0x07 | .putAbort => 0x08 | .take => 0x09 | .read => 0x0A | .settle => 0x0B | .extend => 0x0C
  | .poll => 0x0D | .signal => 0x0E | .readSignals => 0x0F | .claim => 0x10 | .release => 0x11
  | .defineQueue => 0x12 | .setQueue => 0x13 | .closeQueue => 0x14 | .purgeQueue => 0x15 | .setBudget => 0x16
  | .setKeepAlive => 0x17 | .resetPool => 0x18 | .queueStatus => 0x19 | .portStatus => 0x1A | .poolStatus => 0x1B

/-- The code is one of the 27 of 10 section 10.8. -/
def knownCode (c : Byte) : Bool := 1 ≤ c.toNat && c.toNat ≤ 27

/-- One byte into the CRC register, most significant bit first (10 R170). -/
def crcByte (crc : BitVec 16) (b : Byte) : BitVec 16 :=
  let shift (c : BitVec 16) : BitVec 16 := if c.msb then (c <<< 1) ^^^ 0x1021 else c <<< 1
  shift (shift (shift (shift (shift (shift (shift (shift (crc ^^^ (b.zeroExtend 16 <<< 8)))))))))

/-- CRC-16: polynomial 0x1021, initial value 0xFFFF, no reflection, no final inversion (10 R170). -/
def crc16 (bytes : List Byte) : BitVec 16 := bytes.foldl crcByte 0xFFFF

/-- The two CRC bytes, high byte first (10 R170). -/
def crcBytes (bytes : List Byte) : List Byte :=
  [(crc16 bytes).extractLsb' 8 8, (crc16 bytes).extractLsb' 0 8]

/-- The BadFrame reasons (10 section 10.8). -/
inductive BadReason where
  | truncated | flags | length | crc
  deriving DecidableEq, Repr

/-- The codes of the BadFrame reasons (10 section 10.8). -/
def BadReason.code : BadReason → Byte
  | .truncated => 1 | .flags => 2 | .length => 3 | .crc => 4

/-- The payload length field of a received header (10 section 10.7.1). -/
def lengthField (hi lo : Byte) : Nat := hi.toNat * 256 + lo.toNat

/-- A received request frame, judged in the order of 10 R163: the reason it is bad, or its code and content. Bytes
after the two CRC bytes are ignored (10 R162). -/
def judgeFrame : List Byte → BadReason ⊕ (Byte × Frame)
  | code :: tag :: flags :: hi :: lo :: rest =>
    if flags &&& 0xFE ≠ 0 then .inl .flags
    else if Config.payloadLimit < lengthField hi lo then .inl .length
    else if rest.length < lengthField hi lo + 2 then .inl .truncated
    else if (rest.drop (lengthField hi lo)).take 2 ≠
        crcBytes (code :: tag :: flags :: hi :: lo :: rest.take (lengthField hi lo)) then .inl .crc
    else .inr (code, { tag, retry := flags.getLsbD 0, payload := rest.take (lengthField hi lo) })
  | _ => .inl .truncated

/-- The received bytes are a bad frame (10 R163). -/
def isBad (bytes : List Byte) : Bool := (judgeFrame bytes).isLeft

/-- The bytes of a good frame, as a master sends them (10 R170, section 10.7.1). -/
def encodeFrame (code : Byte) (f : Frame) : List Byte :=
  let body := [code, f.tag, if f.retry then 1 else 0, BitVec.ofNat 8 (f.payload.length / 256),
    BitVec.ofNat 8 f.payload.length] ++ f.payload
  body ++ crcBytes body

end Sys2Proof
end

