-- ==== Sys2Proof/Machine/State.lean ====
section
/-! DEFINITION. The state of the part: every piece of state spec/ gives each block, the messages in flight between
blocks, and the queue of waiting commands. Plain data throughout; quantities are Nat (DESIGN CHOICE, assumption 22). -/

namespace Sys2Proof.Machine

/-- The part stops at no command: spec/ names no condition that stops it, so no meaning raises a fault. -/
inductive Fault where
  deriving DecidableEq, Repr

/-- Why a command has no meaning. -/
inductive Refusal where
  /-- Raised by `exec` for a command that has no meaning yet, and by nothing else; safe. -/
  | notModelled (mnemonic : String)
  deriving DecidableEq, Repr

/-- The status codes of responses (10 section 10.8). -/
inductive Status where
  | ok | badFrame | unknownRequest | noSession | busy | notProducer | notConsumer | queueNotOpen
  | queueFull | noSpace | overLimit | empty | leaseLimit | leaseUnknown | noAssembly | sequence
  | lengthMismatch | range | notClaimed | claimHeld | inUse | slotBusy | peerAbsent
  deriving DecidableEq, Repr

/-! ### Messages -/

/-- The class of a message (03 R49). -/
inductive MsgClass where
  | normal | urgent
  deriving DecidableEq, Repr

/-- Why a message went to the dead-letter step (02 R35, 05 R93). -/
inductive DeadCause where
  | limit | discarded
  deriving DecidableEq, Repr

/-- A message record (02 R23, 03 R49, 04 R68, 05 R96). -/
structure Message where
  producer   : Port
  cls        : MsgClass
  length     : Nat
  corr       : Option Word
  reply      : Option QueueId
  chain      : List CellId
  sequence   : BitVec 16
  deliveries : Nat
  purged     : Bool
  origin     : Option (QueueId × DeadCause)
  deriving DecidableEq, Repr

/-! ### Pool manager -/

/-- The arguments of a PutOpen, or of a Put with its data (03 R50, R58). -/
structure PutArgs where
  queue  : QueueId
  length : Nat
  cls    : MsgClass
  corr   : Option Word
  reply  : Option QueueId
  data   : Option (List Byte)
  deriving DecidableEq, Repr

/-- An assembly being filled (03 R48). -/
structure Assembly where
  queue  : QueueId
  length : Nat
  cls    : MsgClass
  corr   : Option Word
  reply  : Option QueueId
  fill   : Nat
  chain  : List CellId
  deriving DecidableEq, Repr

/-- An assembly slot (03 R48). -/
inductive Slot where
  | empty
  | filling (a : Assembly)
  deriving DecidableEq, Repr

/-- An allocation request standing at the pool manager (01 R8). -/
structure AllocReq where
  cells : Nat
  queue : QueueId
  deriving DecidableEq, Repr

/-- A message to the pool manager. -/
inductive PoolMsg where
  /-- a request of a port: Put, PutOpen, PutData, PutCommit or PutAbort (08 R132) -/
  | request (p : Port) (r : Req) (payload : List Byte)
  /-- the session-end announcement of a port (08 R142) -/
  | sessionEnd (p : Port)
  /-- the Attach announcement of a port (08 R134) -/
  | attach (p : Port)
  /-- the query of a PortStatus (11 R174) -/
  | portQuery (requester named : Port)
  /-- the query of a PoolStatus (11 R173) -/
  | poolQuery (requester : Port) (payload : List Byte)
  /-- a SetBudget that passed the claim check (09 R152) -/
  | setBudget (p : Port) (payload : List Byte)
  /-- a ResetPool (09 R155) -/
  | resetPool (p : Port)
  /-- a release of a cell chain to its producer (01 R11) -/
  | release (producer : Port) (chain : List CellId)
  /-- queue checks passed: the allocation request (01 R8) -/
  | alloc (p : Port) (a : AllocReq)
  /-- queue checks refused (03 R51) -/
  | checkRefusal (p : Port) (st : Status)
  /-- a commit was taken, with the sequence it got (03 R56) -/
  | commitAnswer (p : Port) (q : QueueId) (seq : BitVec 16)
  /-- a block has cleared its state (01 R17) -/
  | cleared
  deriving DecidableEq, Repr

/-- The pool manager (01 R20, 03 R65). -/
structure Pool where
  freeList     : List CellId
  charge       : Vector Nat 4
  reserve      : Vector Nat 4
  limit        : Vector Nat 4
  slot         : Vector Slot 4
  opening      : Vector (Option PutArgs) 4
  resetting    : Bool
  pointer      : Port
  standing     : Vector (Option AllocReq) 4
  held         : List PoolMsg
  queueCleared : Bool
  leaseCleared : Bool
  endDeferred  : Vector Bool 4
  cells        : List Host.Cell
  deriving DecidableEq, Repr

/-! ### Queue engine -/

/-- The states of a queue (02 R24). -/
inductive QueueState where
  | unused | opened | draining
  deriving DecidableEq, Repr

/-- "Delivery mode" (02 R21). -/
inductive Delivery where
  | confirmed | streamed
  deriving DecidableEq, Repr

/-- "Producer end" (02 R21). -/
inductive ProducerEnd where
  | keep | purge
  deriving DecidableEq, Repr

/-- A queue record: definition (02 R21) and working state (02 R22). Bit n of `producers` is Port n. -/
structure Queue where
  state       : QueueState
  consumer    : Port
  producers   : BitVec 4
  depth       : Nat
  high        : Nat
  low         : Nat
  period      : Nat
  limit       : Nat
  mode        : Delivery
  producerEnd : ProducerEnd
  deadLetter  : Option QueueId
  list        : List Message
  leased      : Nat
  pending     : Nat
  flag        : Bool
  nextSeq     : BitVec 16
  dropped     : Nat
  deriving DecidableEq, Repr

/-- A message to the queue engine. -/
inductive QueueMsg where
  /-- the queue checks of a PutOpen or Put (02 R31) -/
  | checks (p : Port) (q : QueueId) (cells : Nat)
  /-- a commit (02 R33) -/
  | commit (q : QueueId) (m : Message)
  /-- a pending decrement (02 R32) -/
  | pendingDecrement (q : QueueId)
  /-- the clearing order of a ResetPool (01 R17) -/
  | clearingOrder
  /-- the completion announcement of a ResetPool (09 R156) -/
  | completion
  /-- the head removal of a Take (02 R29) -/
  | headRemoval (p : Port) (q : QueueId)
  /-- a reinsertion (02 R34) -/
  | reinsertion (q : QueueId) (m : Message)
  /-- a leased decrement (02 R34) -/
  | leasedDecrement (q : QueueId)
  /-- a dead-letter request (02 R35) -/
  | deadLetter (q : QueueId) (m : Message) (cause : DeadCause)
  /-- the lease manager's cancellation notice (02 R45) -/
  | cancelled
  /-- a DefineQueue, SetQueue, CloseQueue or PurgeQueue that passed the claim check, or a QueueStatus -/
  | request (p : Port) (r : Req) (payload : List Byte)
  /-- the session-end announcement of a port (08 R142) -/
  | sessionEnd (p : Port)
  /-- the Attach announcement of a port (08 R134) -/
  | attach (p : Port)
  deriving DecidableEq, Repr

/-- The queue engine's part of a ResetPool (02 R45, R46). -/
structure Engine where
  hold      : Bool
  held      : List QueueMsg
  gotOrder  : Bool
  gotNotice : Bool
  deriving DecidableEq, Repr

/-! ### Lease manager -/

/-- A lease (04 R68). -/
structure Lease where
  id        : Nat
  queue     : QueueId
  mode      : Delivery
  message   : Message
  deadline  : Word
  delivered : Nat
  deriving DecidableEq, Repr

/-- A Take in progress: its set-aside lease id, its queue, and whether a ResetPool overtook it (04 R70, R85). -/
structure TakeBusy where
  id        : Nat
  queue     : QueueId
  overtaken : Bool
  deriving DecidableEq, Repr

/-- The queue engine's answer to a head removal (02 R29, 04 R71, R72). -/
inductive HeadAnswer where
  | refused (st : Status)
  | message (m : Message) (period : Nat) (mode : Delivery)
  deriving DecidableEq, Repr

/-- The queue engine's answer to a dead-letter request (02 R35): Moved with the origin queue and no message (05 R96),
Dropped with the origin queue, the cause and the message (05 R97), or Cleared (05 R100). -/
inductive DeadAnswer where
  | moved (q : QueueId)
  | dropped (q : QueueId) (cause : DeadCause) (m : Message)
  | cleared
  deriving DecidableEq, Repr

/-- A message to the lease manager. -/
inductive LeaseMsg where
  /-- a request of a port: Take, Read, Settle or Extend (08 R132) -/
  | request (p : Port) (r : Req) (payload : List Byte)
  /-- the session-end announcement of a port (08 R142) -/
  | sessionEnd (p : Port)
  /-- the Attach announcement of a port (08 R134) -/
  | attach (p : Port)
  /-- the query of a PortStatus (11 R174) -/
  | portQuery (requester named : Port)
  /-- the query of a PoolStatus (11 R173) -/
  | poolQuery (requester : Port) (payload : List Byte)
  /-- the clearing order of a ResetPool (04 R85) -/
  | clearingOrder
  /-- the completion announcement of a ResetPool (04 R86) -/
  | completion
  /-- the answer to a head removal (04 R71, R72) -/
  | headAnswer (p : Port) (a : HeadAnswer)
  /-- a purge-mark request (04 R82) -/
  | purgeMark (q : QueueId) (producer : Option Port)
  /-- a settings notice (05 R89) -/
  | settings (q : QueueId) (limit period : Nat)
  /-- the answer to a dead-letter request (05 R96, R97, R100) -/
  | deadAnswer (a : DeadAnswer)
  deriving DecidableEq, Repr

/-- The lease manager (04 R87, 05 R102). `outstanding` holds the overtaken mark of each dead-letter request whose
answer has not been taken, oldest first. -/
structure Leases where
  timeBase    : Word
  lists       : Vector (List Lease) 4
  counter     : Vector Nat 4
  takes       : Vector (Option TakeBusy) 4
  hold        : Bool
  held        : List LeaseMsg
  limits      : Vector Nat 32
  periods     : Vector Nat 32
  outstanding : List Bool
  endDeferred : Vector Bool 4
  deriving DecidableEq, Repr

/-! ### Notification unit -/

/-- What a block may post (06 R108), every kind but the Overflow marker. -/
inductive Note where
  | arrival (q : QueueId)
  | queueHigh (q : QueueId)
  | queueSpace (q : QueueId)
  | leaseExpired (id : Nat) (q : QueueId)
  | dropped (q : QueueId) (cause : DeadCause)
  | queueClosed (q : QueueId)
  | signalWaiting (sender : Port)
  | signalRead (target : Port)
  | signalLost (target : Port)
  | claimFree
  | poolReset
  deriving DecidableEq, Repr

/-- An entry of a notification queue (06 R107): a note, or the Overflow marker (06 R112). -/
inductive Entry where
  | note (n : Note)
  | overflow
  deriving DecidableEq, Repr

/-- A notification queue, head first (06 R107). -/
structure NoteQueue where
  enabled : Bool
  entries : List Entry
  deriving DecidableEq, Repr

/-- A message to the notification unit. -/
inductive NotifyMsg where
  /-- a Poll, Signal or ReadSignals (08 R132) -/
  | request (p : Port) (r : Req) (payload : List Byte)
  /-- the session-end announcement of a port (08 R142) -/
  | sessionEnd (p : Port)
  /-- the Attach announcement of a port (08 R134) -/
  | attach (p : Port)
  /-- the query of a PortStatus (11 R174) -/
  | portQuery (requester named : Port)
  /-- a post (06 R109) -/
  | post (p : Port) (n : Note)
  deriving DecidableEq, Repr

/-- The notification unit (06 R120, 07 R121). `inbound` is indexed by target and holds that target's slots by sender;
the four slots from a port to itself do not exist in the part and stay empty (DESIGN CHOICE, assumption 21). -/
structure Notify where
  queues  : Vector NoteQueue 4
  inbound : Vector (Vector (Option Word) 4) 4
  deriving DecidableEq, Repr

/-! ### Configuration unit -/

/-- A message to the configuration unit. -/
inductive ConfigMsg where
  /-- a Claim, a Release or a configuration request (09 R152) -/
  | request (p : Port) (r : Req) (payload : List Byte)
  /-- the session-end announcement of a port (08 R142) -/
  | sessionEnd (p : Port)
  /-- the query of a PortStatus (11 R174) -/
  | portQuery (requester named : Port)
  /-- a port controller has taken the setting that the SetKeepAlive of `requester` sent (09 R154) -/
  | settingTaken (requester : Port) (setting : Nat)
  /-- a ResetPool has completed (09 R156) -/
  | completion
  deriving DecidableEq, Repr

/-- The configuration unit (09 R159). -/
structure ConfigUnit where
  holder    : Option Port
  keepAlive : Vector Nat 4
  resetList : List Port
  deriving DecidableEq, Repr

/-! ### Port controllers -/

/-- The session states (08 R130). -/
inductive Session where
  | down | attached | closing
  deriving DecidableEq, Repr

/-- The last end causes (08 R131). -/
inductive EndCause where
  | none | detach | reattach | timeout | portReset
  deriving DecidableEq, Repr

/-- A response, but for its CRC (10 section 10.7.1): flags OVERRUN and ATN mirror. -/
structure Response where
  status  : Status
  tag     : Byte
  code    : Byte
  overrun : Bool
  atn     : Bool
  epoch   : BitVec 8
  payload : List Byte
  deriving DecidableEq, Repr

/-- A cached response (10 R168): a response without its flags. -/
structure Cached where
  status  : Status
  tag     : Byte
  code    : Byte
  epoch   : BitVec 8
  payload : List Byte
  deriving DecidableEq, Repr

/-- One place's part of a status answer (11 R173, R175). -/
inductive StatusPart where
  | controller (session : Session) (epoch : BitVec 8) (lastEnd : EndCause) (setting remaining : Nat)
  | poolPort (charge reserve limit : Nat) (slot : Slot)
  | leases (entries : List (Nat × QueueId × Nat))
  | notes (count : Nat)
  | claim (holds : Bool)
  | poolCounts (free shared inUse : Nat) (resetting : Bool)
  | timeBase (t : Word)
  /-- Range: the payload of the request does not fit its layout (10 R164) -/
  | misfit
  deriving DecidableEq, Repr

/-- What a request in Executing waits for. -/
inductive Work where
  /-- the answer of the block that owns it (08 R133) -/
  | owner
  /-- an Attach being carried out, before the notification unit's report (08 R134 step 1) -/
  | attachNotify
  /-- an Attach being carried out, before the reports of `left`, with the charge reported so far (08 R134 step 2) -/
  | attachReports (left : List Block) (charge : Nat)
  /-- a held Attach (08 R135) -/
  | heldAttach
  /-- a Detach, until the port is Down (08 R137) -/
  | detach
  /-- a PortStatus or PoolStatus, with the parts taken so far (11 R173, R174) -/
  | status (needed : Nat) (parts : List StatusPart)
  deriving DecidableEq, Repr

/-- The request in Executing, with its discard mark (08 R145). -/
structure ExecReq where
  code    : Byte
  tag     : Byte
  discard : Bool
  work    : Work
  deriving DecidableEq, Repr

/-- The request engine (10 R161). -/
inductive ReqEngine where
  | idle
  | receiving
  | executing (e : ExecReq)
  | responseReady (r : Response)
  deriving DecidableEq, Repr

/-- The transaction in progress under SEL (10 R160): SEL asserted and no whole first byte yet, with the presence as
decided at the assertion, a request frame with its first byte, an overrun frame, or a response read (10 R167). `none` is
no transaction, or one that the port ignores (08 R146; assumption 13). -/
inductive Link where
  | none
  | selected (present : Bool)
  | request (code : Byte)
  | overrun
  | reading (ready : Bool)
  deriving DecidableEq, Repr

/-- A port controller (08 R147). `shifted` is what MISO last carried (DESIGN CHOICE, assumption 13). -/
structure PortCtl where
  session       : Session
  epoch         : BitVec 8
  lastEnd       : EndCause
  setting       : Nat
  timer         : Option Nat
  deferredReset : Bool
  outstanding   : List Block
  engine        : ReqEngine
  cache         : Option Cached
  overrun       : Bool
  prst          : Bool
  link          : Link
  shifted       : List Byte
  deriving DecidableEq, Repr

/-! ### Messages in flight -/

/-- Who sent a message. -/
inductive Source where
  | port (p : Port)
  | config | pool | queue | lease
  deriving DecidableEq, Repr

/-- The messages on their way to one block, one list for each sender, oldest first (01 R13, 02 R36); DEDUCED
(assumption 3): messages of different senders carry no order. -/
structure Inbox (α : Type) where
  ports  : Vector (List α) 4
  config : List α
  pool   : List α
  queue  : List α
  lease  : List α
  deriving DecidableEq, Repr

/-- An answer on its way to a port controller (08 R133, 11 R173, R174). -/
inductive Answer where
  | final (st : Status) (payload : List Byte)
  | part (x : StatusPart)
  deriving DecidableEq, Repr

/-- A block's report that it has taken an Attach announcement; the pool manager's carries the charge (08 R134). -/
structure AttachReport where
  block  : Block
  charge : Nat
  deriving DecidableEq, Repr

/-- A keep-alive setting on its way to a port controller (09 R154). -/
structure NewSetting where
  requester : Port
  setting   : Nat
  deriving DecidableEq, Repr

/-- Everything in flight between blocks. `queries` is indexed by the requester of a PortStatus and holds the named
port. -/
structure Links where
  toPool        : Inbox PoolMsg
  toQueue       : Inbox QueueMsg
  toLease       : Inbox LeaseMsg
  toNotify      : Inbox NotifyMsg
  toConfig      : Inbox ConfigMsg
  answers       : Vector (List Answer) 4
  cleanups      : Vector (List Block) 4
  enabled       : Vector Bool 4
  attachReports : Vector (List AttachReport) 4
  settings      : Vector (List NewSetting) 4
  queries       : Vector (List Port) 4
  deriving DecidableEq, Repr

/-- The whole part, and the commands that wait. -/
structure State where
  pool     : Pool
  queues   : Vector Queue 32
  engine   : Engine
  leases   : Leases
  notify   : Notify
  config   : ConfigUnit
  ports    : Vector PortCtl 4
  links    : Links
  resetLow : Bool
  pending  : List Instr
  deriving DecidableEq, Repr

/-! ### Reset values -/

/-- `n` cells from number `k` on, in ascending order. -/
def cellRun : Nat → Nat → List CellId
  | 0, _ => []
  | n + 1, k => Fin.ofNat 4096 k :: cellRun n (k + 1)

/-- 01 R20, 03 R65. The order of the free list and the cell contents are the model's (DESIGN CHOICE, assumptions 6, 7). -/
def Pool.reset : Pool where
  freeList := cellRun 4096 0
  charge := Vector.replicate 4 0
  reserve := Vector.replicate 4 0
  limit := Vector.replicate 4 4096
  slot := Vector.replicate 4 .empty
  opening := Vector.replicate 4 none
  resetting := false
  pointer := 0
  standing := Vector.replicate 4 none
  held := []
  queueCleared := false
  leaseCleared := false
  endDeferred := Vector.replicate 4 false
  cells := []

/-- 02 R47. -/
def Queue.reset : Queue where
  state := .unused
  consumer := 0
  producers := 0
  depth := 1
  high := 0
  low := 0
  period := 1
  limit := 1
  mode := .confirmed
  producerEnd := .keep
  deadLetter := none
  list := []
  leased := 0
  pending := 0
  flag := false
  nextSeq := 0
  dropped := 0

/-- 02 R47. -/
def Engine.reset : Engine where
  hold := false
  held := []
  gotOrder := false
  gotNotice := false

/-- 04 R87, 05 R102. -/
def Leases.reset : Leases where
  timeBase := 0
  lists := Vector.replicate 4 []
  counter := Vector.replicate 4 1
  takes := Vector.replicate 4 none
  hold := false
  held := []
  limits := Vector.replicate 32 1
  periods := Vector.replicate 32 1
  outstanding := []
  endDeferred := Vector.replicate 4 false

/-- 06 R120, 07 R129. -/
def Notify.reset : Notify where
  queues := Vector.replicate 4 { enabled := false, entries := [] }
  inbound := Vector.replicate 4 (Vector.replicate 4 none)

/-- 09 R159. -/
def ConfigUnit.reset : ConfigUnit where
  holder := none
  keepAlive := Vector.replicate 4 0
  resetList := []

/-- 08 R147; PRST released (DESIGN CHOICE, assumption 24). -/
def PortCtl.reset : PortCtl where
  session := .down
  epoch := 0
  lastEnd := .none
  setting := 0
  timer := none
  deferredReset := false
  outstanding := []
  engine := .idle
  cache := none
  overrun := false
  prst := false
  link := .none
  shifted := []

/-- No message from any sender. -/
def Inbox.empty {α : Type} : Inbox α where
  ports := Vector.replicate 4 []
  config := []
  pool := []
  queue := []
  lease := []

/-- Nothing in flight (05 R102, 06 R120, 08 R147). -/
def Links.empty : Links where
  toPool := .empty
  toQueue := .empty
  toLease := .empty
  toNotify := .empty
  toConfig := .empty
  answers := Vector.replicate 4 []
  cleanups := Vector.replicate 4 []
  enabled := Vector.replicate 4 false
  attachReports := Vector.replicate 4 []
  settings := Vector.replicate 4 []
  queries := Vector.replicate 4 []

/-- The part at the release of RESET (10 R172; DESIGN CHOICE, assumption 5), with no command waiting (assumption 4). -/
def State.reset : State where
  pool := .reset
  queues := Vector.replicate 32 .reset
  engine := .reset
  leases := .reset
  notify := .reset
  config := .reset
  ports := Vector.replicate 4 .reset
  links := .empty
  resetLow := false
  pending := []

end Sys2Proof.Machine
end

