-- ==== Sys2Proof/Machine/Ops.lean ====
section
/-! DEFINITION. The operations every block shares: per-port and per-queue tables, bytes on the link, the cell store,
sending and taking messages, posts and answers. -/

namespace Sys2Proof.Machine

/-! ### Tables -/

/-- The entry of a table. -/
def sel {α : Type} {n : Nat} (v : Vector α n) (i : Fin n) : α := v[i.val]

/-- The table with one entry replaced. -/
def upd {α : Type} {n : Nat} (v : Vector α n) (i : Fin n) (x : α) : Vector α n := v.set i.val x i.isLt

/-- All ports, Port 0 first. -/
def allPorts : List Port := [0, 1, 2, 3]

/-- All queues, Queue 0 first. -/
def allQueues : List QueueId := List.finRange 32

/-- The sum of a per-port quantity. -/
def portSum (f : Port → Nat) : Nat := f 0 + f 1 + f 2 + f 3

/-- The port that follows in round-robin order, Port 0 after Port 3 (01 R9). -/
def nextPort (p : Port) : Port := p + 1

/-- The three other ports, ascending. -/
def otherPorts (p : Port) : List Port := allPorts.filter (· != p)

/-! ### Bytes (10 R171: most significant byte first) -/

/-- A one-byte field. -/
def byte1 (n : Nat) : List Byte := [BitVec.ofNat 8 n]

/-- A two-byte field. -/
def byte2 (n : Nat) : List Byte := [BitVec.ofNat 8 (n / 256), BitVec.ofNat 8 n]

/-- A four-byte field. -/
def byte4 (w : Word) : List Byte :=
  [w.extractLsb' 24 8, w.extractLsb' 16 8, w.extractLsb' 8 8, w.extractLsb' 0 8]

/-- Read a two-byte field. -/
def nat2 (hi lo : Byte) : Nat := hi.toNat * 256 + lo.toNat

/-- Read a four-byte field. -/
def word4 (a b c d : Byte) : Word := a ++ b ++ c ++ d

/-- 0 no, 1 yes. -/
def bit (b : Bool) : Byte := if b then 1 else 0

/-! ### The cell store (01 R1, R2) -/

/-- The canonical form: addresses strictly rising, and no byte that an unlisted address reads as. -/
def cellsWf : List Host.Cell → Bool
  | [] => true
  | (a, b) :: rest => b != Config.blankByte && rest.all (fun c => a < c.1) && cellsWf rest

/-- Read one byte. -/
def readCell (a : Nat) : List Host.Cell → Byte
  | [] => Config.blankByte
  | (k, b) :: rest => if k = a then b else readCell a rest

/-- Write one byte, keeping the canonical form. -/
def writeCell (a : Nat) (b : Byte) : List Host.Cell → List Host.Cell
  | [] => if b = Config.blankByte then [] else [(a, b)]
  | (k, x) :: rest =>
    if k < a then (k, x) :: writeCell a b rest
    else if k = a then (if b = Config.blankByte then rest else (a, b) :: rest)
    else if b = Config.blankByte then (k, x) :: rest else (a, b) :: (k, x) :: rest

/-- The address of byte `k` of a message: position `k` modulo 64 of chain cell `k / 64` (01 R2); none past the
chain. -/
def byteAddr (chain : List CellId) (k : Nat) : Option Nat :=
  (chain[k / Config.cellSize]?).map fun c => c.val * Config.cellSize + k % Config.cellSize

/-- Store bytes at message position `k` on, as 01 R2 places them. -/
def storeBytes (chain : List CellId) : Nat → List Byte → List Host.Cell → List Host.Cell
  | _, [], mem => mem
  | k, b :: rest, mem =>
    storeBytes chain (k + 1) rest (match byteAddr chain k with | some a => writeCell a b mem | none => mem)

/-- Fetch `n` bytes from message position `k` on, as 01 R2 places them. -/
def fetchBytes (chain : List CellId) (mem : List Host.Cell) : Nat → Nat → List Byte
  | _, 0 => []
  | k, n + 1 =>
    (match byteAddr chain k with | some a => readCell a mem | none => Config.blankByte) ::
      fetchBytes chain mem (k + 1) n

/-! ### Inboxes -/

/-- The messages from one sender, oldest first. -/
def Inbox.sent {α : Type} (b : Inbox α) : Source → List α
  | .port p => sel b.ports p
  | .config => b.config
  | .pool => b.pool
  | .queue => b.queue
  | .lease => b.lease

/-- The inbox with the messages from one sender replaced. -/
def Inbox.put {α : Type} (b : Inbox α) (src : Source) (l : List α) : Inbox α :=
  match src with
  | .port p => { b with ports := upd b.ports p l }
  | .config => { b with config := l }
  | .pool => { b with pool := l }
  | .queue => { b with queue := l }
  | .lease => { b with lease := l }

/-- A message joins behind those its sender sent before (01 R13, 02 R36). -/
def Inbox.push {α : Type} (b : Inbox α) (src : Source) (x : α) : Inbox α := b.put src (b.sent src ++ [x])

/-- The block's name as a sender; the notification unit sends nothing to a shared block. -/
def blockSource : Block → Option Source
  | .config => some .config
  | .pool => some .pool
  | .queue => some .queue
  | .lease => some .lease
  | .notify => none

/-! ### Updates of State -/

/-- The port controller of `p`. -/
def State.port (s : State) (p : Port) : PortCtl := sel s.ports p

/-- Replace the port controller of `p`. -/
def State.setPort (s : State) (p : Port) (c : PortCtl) : State := { s with ports := upd s.ports p c }

/-- The record of queue `q`. -/
def State.queue (s : State) (q : QueueId) : Queue := sel s.queues q

/-- Replace the record of queue `q`. -/
def State.setQueue (s : State) (q : QueueId) (r : Queue) : State := { s with queues := upd s.queues q r }

/-- Replace the pool manager. -/
def State.setPool (s : State) (x : Pool) : State := { s with pool := x }

/-- Replace the queue engine's reset hold. -/
def State.setEngine (s : State) (x : Engine) : State := { s with engine := x }

/-- Replace the lease manager. -/
def State.setLeases (s : State) (x : Leases) : State := { s with leases := x }

/-- Replace the notification unit. -/
def State.setNotify (s : State) (x : Notify) : State := { s with notify := x }

/-- Replace the configuration unit. -/
def State.setConfig (s : State) (x : ConfigUnit) : State := { s with config := x }

/-- Replace the messages in flight. -/
def State.setLinks (s : State) (x : Links) : State := { s with links := x }

/-! ### Sending -/

/-- Send to the pool manager. -/
def sendPool (src : Source) (x : PoolMsg) (s : State) : State :=
  s.setLinks { s.links with toPool := s.links.toPool.push src x }

/-- Send to the queue engine. -/
def sendQueue (src : Source) (x : QueueMsg) (s : State) : State :=
  s.setLinks { s.links with toQueue := s.links.toQueue.push src x }

/-- Send to the lease manager. -/
def sendLease (src : Source) (x : LeaseMsg) (s : State) : State :=
  s.setLinks { s.links with toLease := s.links.toLease.push src x }

/-- Send to the notification unit. -/
def sendNotify (src : Source) (x : NotifyMsg) (s : State) : State :=
  s.setLinks { s.links with toNotify := s.links.toNotify.push src x }

/-- Send to the configuration unit. -/
def sendConfig (src : Source) (x : ConfigMsg) (s : State) : State :=
  s.setLinks { s.links with toConfig := s.links.toConfig.push src x }

/-- Post a notification to a port (06 R109). -/
def postNote (src : Source) (p : Port) (n : Note) (s : State) : State := sendNotify src (.post p n) s

/-- Post the same notification to several ports, in the order given (DESIGN CHOICE where spec/ gives none,
assumption 19). -/
def postAll (src : Source) (ps : List Port) (n : Note) (s : State) : State :=
  ps.foldl (fun s p => postNote src p n s) s

/-- Answer the request of a port (08 R133). -/
def answer (p : Port) (x : Answer) (s : State) : State :=
  s.setLinks { s.links with answers := upd s.links.answers p (sel s.links.answers p ++ [x]) }

/-- Answer with a status and a payload. -/
def reply (p : Port) (st : Status) (payload : List Byte) (s : State) : State := answer p (.final st payload) s

/-- Report a block's cleanup done to the port controller (08 R143). -/
def reportCleanup (p : Port) (b : Block) (s : State) : State :=
  s.setLinks { s.links with cleanups := upd s.links.cleanups p (sel s.links.cleanups p ++ [b]) }

/-- Report an Attach announcement taken (08 R134). -/
def reportAttach (p : Port) (x : AttachReport) (s : State) : State :=
  s.setLinks { s.links with attachReports := upd s.links.attachReports p (sel s.links.attachReports p ++ [x]) }

/-! ### Taking: the oldest message of one sender has been taken -/

/-- The messages of `src` to the pool manager are now `l`. -/
def restPool (src : Source) (l : List PoolMsg) (s : State) : State :=
  s.setLinks { s.links with toPool := s.links.toPool.put src l }

/-- The messages of `src` to the queue engine are now `l`. -/
def restQueue (src : Source) (l : List QueueMsg) (s : State) : State :=
  s.setLinks { s.links with toQueue := s.links.toQueue.put src l }

/-- The messages of `src` to the lease manager are now `l`. -/
def restLease (src : Source) (l : List LeaseMsg) (s : State) : State :=
  s.setLinks { s.links with toLease := s.links.toLease.put src l }

/-- The messages of `src` to the notification unit are now `l`. -/
def restNotify (src : Source) (l : List NotifyMsg) (s : State) : State :=
  s.setLinks { s.links with toNotify := s.links.toNotify.put src l }

/-- The messages of `src` to the configuration unit are now `l`. -/
def restConfig (src : Source) (l : List ConfigMsg) (s : State) : State :=
  s.setLinks { s.links with toConfig := s.links.toConfig.put src l }

/-! ### Codes (10 section 10.8) -/

/-- The status codes. -/
def Status.code : Status → Byte
  | .ok => 0x00 | .badFrame => 0x01 | .unknownRequest => 0x02 | .noSession => 0x03 | .busy => 0x10
  | .notProducer => 0x11 | .notConsumer => 0x12 | .queueNotOpen => 0x13 | .queueFull => 0x14 | .noSpace => 0x15
  | .overLimit => 0x16 | .empty => 0x17 | .leaseLimit => 0x20 | .leaseUnknown => 0x21 | .noAssembly => 0x22
  | .sequence => 0x23 | .lengthMismatch => 0x24 | .range => 0x25 | .notClaimed => 0x30 | .claimHeld => 0x31
  | .inUse => 0x32 | .slotBusy => 0x33 | .peerAbsent => 0x34

/-- Class codes. -/
def MsgClass.code : MsgClass → Byte
  | .normal => 0 | .urgent => 1

/-- Dead-letter cause codes. -/
def DeadCause.code : DeadCause → Byte
  | .limit => 1 | .discarded => 2

/-- Queue state codes. -/
def QueueState.code : QueueState → Byte
  | .unused => 0 | .opened => 1 | .draining => 2

/-- Delivery mode codes. -/
def Delivery.code : Delivery → Byte
  | .confirmed => 0 | .streamed => 1

/-- Producer end codes. -/
def ProducerEnd.code : ProducerEnd → Byte
  | .keep => 0 | .purge => 1

/-- Session state codes. -/
def Session.code : Session → Byte
  | .down => 0 | .attached => 1 | .closing => 2

/-- Last end cause codes. -/
def EndCause.code : EndCause → Byte
  | .none => 0 | .detach => 1 | .reattach => 2 | .timeout => 3 | .portReset => 4

/-- A port or queue field that may name nothing: 0xFF marks absence (10 R171). -/
def optByte {n : Nat} : Option (Fin n) → Byte
  | some i => BitVec.ofNat 8 i.val
  | none => 0xFF

/-- The kind codes, and the six bytes of a notification entry (10 section 10.7.4). -/
def Entry.bytes : Entry → List Byte
  | .note (.arrival q) => [0x01, 0x01, BitVec.ofNat 8 q.val, 0, 0, 0]
  | .note (.queueHigh q) => [0x02, 0x01, BitVec.ofNat 8 q.val, 0, 0, 0]
  | .note (.queueSpace q) => [0x03, 0x01, BitVec.ofNat 8 q.val, 0, 0, 0]
  | .note (.leaseExpired id q) => [0x04, 0x03, BitVec.ofNat 8 q.val, BitVec.ofNat 8 id, 0, 0]
  | .note (.dropped q cause) => [0x05, 0x09, BitVec.ofNat 8 q.val, 0, 0, cause.code]
  | .note (.queueClosed q) => [0x06, 0x01, BitVec.ofNat 8 q.val, 0, 0, 0]
  | .note (.signalWaiting p) => [0x07, 0x04, 0, 0, BitVec.ofNat 8 p.val, 0]
  | .note (.signalRead p) => [0x08, 0x04, 0, 0, BitVec.ofNat 8 p.val, 0]
  | .note (.signalLost p) => [0x09, 0x04, 0, 0, BitVec.ofNat 8 p.val, 0]
  | .note .claimFree => [0x0A, 0, 0, 0, 0, 0]
  | .note .poolReset => [0x0B, 0, 0, 0, 0, 0]
  | .overflow => [0x0C, 0, 0, 0, 0, 0]

/-- The Take descriptor of a message standing in queue `q` (04 R74, 10 section 10.7.3). -/
def descriptor (q : QueueId) (m : Message) : List Byte :=
  [bit m.corr.isSome ||| (bit m.reply.isSome <<< 1) ||| (bit m.origin.isSome <<< 2), BitVec.ofNat 8 q.val] ++
  byte2 m.length ++ [m.cls.code, BitVec.ofNat 8 m.producer.val] ++ byte2 m.sequence.toNat ++ byte1 m.deliveries ++
  byte4 (m.corr.getD 0) ++ [(m.reply.map fun r => BitVec.ofNat 8 r.val).getD 0,
    (m.origin.map fun o => BitVec.ofNat 8 o.1.val).getD 0, (m.origin.map fun o => o.2.code).getD 0]

end Sys2Proof.Machine
end

