-- ==== Sys2Proof/Machine/Operands.lean ====
section
/-! DEFINITION. The payloads of requests, read as 10 section 10.7.2 lays them out. Each parser answers none exactly
where the block that takes the request answers Range for its payload: the length does not fit the layout (10 R164), a
flag bit is undefined, an enumerated value is undefined, or a field is out of range (10 R171). Where it stands among the
checks is DEDUCED from 10 R164 (assumption 28). -/

namespace Sys2Proof.Machine

/-- A queue id field, 0 to 31. -/
def queueField (b : Byte) : Option QueueId := if h : b.toNat < 32 then some ⟨b.toNat, h⟩ else none

/-- A port field, 0 to 3. -/
def portField (b : Byte) : Option Port := if h : b.toNat < 4 then some ⟨b.toNat, h⟩ else none

/-- A class field. -/
def classField (b : Byte) : Option MsgClass :=
  if b = 0 then some .normal else if b = 1 then some .urgent else none

/-- A delivery mode field. -/
def modeField (b : Byte) : Option Delivery :=
  if b = 0 then some .confirmed else if b = 1 then some .streamed else none

/-- A producer end field. -/
def producerEndField (b : Byte) : Option ProducerEnd :=
  if b = 0 then some .keep else if b = 1 then some .purge else none

/-- A producer set field: non-empty, bits 0 to 3 only (02 R25; DEDUCED, assumption 18). -/
def producersField (b : Byte) : Option (BitVec 4) :=
  if b &&& 0xF0 = 0 ∧ b ≠ 0 then some (b.extractLsb' 0 4) else none

/-- A dead-letter queue field of a DefineQueue: 0xFF for none (DEDUCED, assumption 17), else a queue id. -/
def deadLetterField (b : Byte) : Option (Option QueueId) :=
  if b = 0xFF then some none else (queueField b).map some

/-- The optional correlation word that the option byte `o` declares, and the bytes after it. -/
def corrField (o : Byte) (rest : List Byte) : Option (Option Word × List Byte) :=
  if o.getLsbD 0 then
    match rest with
    | a :: b :: c :: d :: rest => some (some (word4 a b c d), rest)
    | _ => none
  else some (none, rest)

/-- The optional reply queue that the option byte `o` declares, and the bytes after it. -/
def replyField (o : Byte) (rest : List Byte) : Option (Option QueueId × List Byte) :=
  if o.getLsbD 1 then
    match rest with
    | a :: rest => (queueField a).map fun q => (some q, rest)
    | [] => none
  else some (none, rest)

/-- The optional fields a PutOpen or Put declares, and the bytes after them; an undefined option bit is out of
range. -/
def optionFields (o : Byte) (rest : List Byte) : Option (Option Word × Option QueueId × List Byte) :=
  if o &&& 0xFC ≠ 0 then none
  else do
    let (corr, rest) ← corrField o rest
    let (re, rest) ← replyField o rest
    pure (corr, re, rest)

/-- PutOpen (03 R50). -/
def parsePutOpen : List Byte → Option PutArgs
  | q :: c :: hi :: lo :: o :: rest => do
    let queue ← queueField q
    let cls ← classField c
    let (corr, re, rest) ← optionFields o rest
    if 1 ≤ nat2 hi lo ∧ nat2 hi lo ≤ 4096 ∧ rest = [] then
      pure { queue, length := nat2 hi lo, cls, corr, reply := re, data := none }
    else none
  | _ => none

/-- Put (03 R58): the message is the rest of the payload, 1 to 256 bytes. -/
def parsePut : List Byte → Option PutArgs
  | q :: c :: o :: rest => do
    let queue ← queueField q
    let cls ← classField c
    let (corr, re, data) ← optionFields o rest
    if 1 ≤ data.length ∧ data.length ≤ Config.chunkLimit then
      pure { queue, length := data.length, cls, corr, reply := re, data := some data }
    else none
  | _ => none

/-- PutData: offset and data (03 R53); none where the payload does not fit the layout (DEDUCED, assumption
15). -/
def parsePutData : List Byte → Option (Nat × List Byte)
  | hi :: lo :: data => if data.length ≤ Config.chunkLimit then some (nat2 hi lo, data) else none
  | _ => none

/-- A payload of one queue id: Take, CloseQueue, PurgeQueue, QueueStatus. -/
def parseQueue : List Byte → Option QueueId
  | [q] => queueField q
  | _ => none

/-- Read: lease id, offset and count (04 R75); only the layout is judged here. -/
def parseRead : List Byte → Option (Nat × Nat × Nat)
  | [id, ohi, olo, chi, clo] => some (id.toNat, nat2 ohi olo, nat2 chi clo)
  | _ => none

/-- The outcomes of a Settle (04 R77). -/
inductive SettleOutcome where
  | accept | giveBack | discard
  deriving DecidableEq, Repr

/-- Settle: lease id and outcome (04 R77). -/
def parseSettle : List Byte → Option (Nat × SettleOutcome)
  | [id, o] =>
    if o = 1 then some (id.toNat, .accept) else if o = 2 then some (id.toNat, .giveBack)
    else if o = 3 then some (id.toNat, .discard) else none
  | _ => none

/-- Extend: a lease id (04 R80). -/
def parseExtend : List Byte → Option Nat
  | [id] => some id.toNat
  | _ => none

/-- Signal: target port and word (07 R122). -/
def parseSignal : List Byte → Option (Port × Word)
  | [t, a, b, c, d] => (portField t).map fun p => (p, word4 a b c d)
  | _ => none

/-- The settable fields of a queue record (02 R21). -/
structure Settable where
  producers   : BitVec 4
  depth       : Nat
  high        : Nat
  low         : Nat
  period      : Nat
  limit       : Nat
  producerEnd : ProducerEnd
  deriving DecidableEq, Repr

/-- The ranges of the settable fields (02 R25, R43). -/
def Settable.inRange (x : Settable) : Bool :=
  1 ≤ x.depth && x.depth ≤ 1024 && x.high ≤ x.depth &&
    (if x.high = 0 then x.low = 0 else x.low < x.high) &&
    1 ≤ x.period && x.period ≤ 65535 && 1 ≤ x.limit && x.limit ≤ 15

/-- A definition: the settable and the fixed fields (02 R21). -/
structure Definition where
  consumer   : Port
  settable   : Settable
  mode       : Delivery
  deadLetter : Option QueueId
  deriving DecidableEq, Repr

/-- DefineQueue (02 R25): queue, consumer, producer set, depth, H, W, lease period, redelivery limit, delivery mode,
producer end, dead-letter queue. -/
def parseDefine : List Byte → Option (QueueId × Definition)
  | [q, c, ps, dh, dl, hh, hl, wh, wl, lh, ll, rl, dm, pe, dq] => do
    let queue ← queueField q
    let consumer ← portField c
    let producers ← producersField ps
    let mode ← modeField dm
    let producerEnd ← producerEndField pe
    let deadLetter ← deadLetterField dq
    let settable : Settable :=
      { producers, depth := nat2 dh dl, high := nat2 hh hl, low := nat2 wh wl, period := nat2 lh ll,
        limit := rl.toNat, producerEnd }
    if settable.inRange ∧ deadLetter ≠ some queue then pure (queue, { consumer, settable, mode, deadLetter }) else none
  | _ => none

/-- SetQueue (02 R43): queue, producer set, depth, H, W, lease period, redelivery limit, producer end. -/
def parseSet : List Byte → Option (QueueId × Settable)
  | [q, ps, dh, dl, hh, hl, wh, wl, lh, ll, rl, pe] => do
    let queue ← queueField q
    let producers ← producersField ps
    let producerEnd ← producerEndField pe
    let settable : Settable :=
      { producers, depth := nat2 dh dl, high := nat2 hh hl, low := nat2 wh wl, period := nat2 lh ll,
        limit := rl.toNat, producerEnd }
    if settable.inRange then pure (queue, settable) else none
  | _ => none

/-- SetBudget (01 R14): port, reserve, limit. -/
def parseBudget : List Byte → Option (Port × Nat × Nat)
  | [p, rh, rl, lh, ll] => do
    let port ← portField p
    if nat2 rh rl ≤ 4096 ∧ nat2 lh ll ≤ 4096 ∧ nat2 rh rl ≤ nat2 lh ll then pure (port, nat2 rh rl, nat2 lh ll) else none
  | _ => none

/-- SetKeepAlive (09 R154): port and setting, 0 or 10 to 60000. -/
def parseKeepAlive : List Byte → Option (Port × Nat)
  | [p, hi, lo] => do
    let port ← portField p
    if nat2 hi lo = 0 ∨ (10 ≤ nat2 hi lo ∧ nat2 hi lo ≤ 60000) then pure (port, nat2 hi lo) else none
  | _ => none

/-- PortStatus (11 R174): a port. -/
def parsePort : List Byte → Option Port
  | [p] => portField p
  | _ => none

end Sys2Proof.Machine
end

