-- ==== Sys2Proof/Machine/Flags.lean ====
section
/-! DEFINITION. The derived counts and flags: occupancy, the high flag and its evaluation, the shared region, and the
output lines RDY and ATN. -/

namespace Sys2Proof.Machine

/-! ### Queues -/

/-- Entries in the message list (02 R22). -/
def Queue.queued (r : Queue) : Nat := r.list.length

/-- Urgent entries (02 R22). -/
def Queue.urgents (r : Queue) : Nat := (r.list.filter (·.cls = .urgent)).length

/-- Normal entries (02 R22). -/
def Queue.normals (r : Queue) : Nat := (r.list.filter (·.cls = .normal)).length

/-- Queued plus leased plus pending (02 R22). -/
def Queue.occupancy (r : Queue) : Nat := r.queued + r.leased + r.pending

/-- The ports of the producer set, ascending. -/
def Queue.producerPorts (r : Queue) : List Port := allPorts.filter fun p => r.producers.getLsbD p.val

/-- The queue is not Unused. -/
def Queue.live (r : Queue) : Bool := r.state != .unused

/-- What an evaluation of the high flag posts (06 R103). -/
inductive FlagPost where
  | nothing | queueHigh | queueSpace
  deriving DecidableEq, Repr

/-- The high flag after an evaluation, and the post it makes (06 R103, R105). -/
def Queue.judgeFlag (r : Queue) : Bool × FlagPost :=
  if r.high = 0 then (false, .nothing)
  else if r.flag then (if r.occupancy ≤ r.low then (false, .queueSpace) else (true, .nothing))
  else if r.high ≤ r.occupancy then (true, .queueHigh) else (false, .nothing)

/-- The note of a flag post. -/
def FlagPost.note (q : QueueId) : FlagPost → Option Note
  | .nothing => none
  | .queueHigh => some (.queueHigh q)
  | .queueSpace => some (.queueSpace q)

/-- Evaluate the high flag of a queue; each port of the producer set gets the post (06 R104). -/
def evalFlag (q : QueueId) (s : State) : State :=
  let r := s.queue q
  let s' := s.setQueue q { r with flag := r.judgeFlag.1 }
  match r.judgeFlag.2.note q with
  | some n => postAll .queue r.producerPorts n s'
  | none => s'

/-! ### Budgets -/

/-- The size S of the shared region (01 R6). -/
def sharedSize (reserve : Vector Nat 4) : Nat := 4096 - portSum (sel reserve)

/-- The shared in use (01 R6). -/
def sharedInUse (charge reserve : Vector Nat 4) : Nat := portSum fun p => sel charge p - sel reserve p

/-- Admission's answers (01 R7). -/
inductive Verdict where
  | granted | overLimit | noSpace
  deriving DecidableEq, Repr

/-- The admission rule for `n` cells of port `p` (01 R7). -/
def Pool.admission (x : Pool) (p : Port) (n : Nat) : Verdict :=
  if sel x.limit p < sel x.charge p + n then .overLimit
  else if sharedSize x.reserve < sharedInUse (upd x.charge p (sel x.charge p + n)) x.reserve then .noSpace
  else .granted

/-! ### Output lines -/

/-- The ATN line: an entry stands, or an inbound slot is full (06 R117). -/
def atn (u : Notify) (p : Port) : Bool :=
  !(sel u.queues p).entries.isEmpty || allPorts.any fun a => (sel (sel u.inbound p) a).isSome

/-- The RDY line: high exactly in ResponseReady (10 R161). -/
def rdy (c : PortCtl) : Bool :=
  match c.engine with
  | .responseReady _ => true
  | _ => false

end Sys2Proof.Machine
end

