-- ==== Sys2Proof/Machine/ConfigurationUnit.lean ====
section
/-! DEFINITION. The configuration unit: the claim, the keep-alive table, the reset list and the routing of
configuration requests (09 R148 to R159). -/

namespace Sys2Proof.Machine

/-- The claim becomes free, and ClaimFree is posted to the three other ports (09 R149, R150). -/
def freeClaim (p : Port) (s : State) : State :=
  postAll .config (otherPorts p) .claimFree (s.setConfig { s.config with holder := none })

/-- Claim (09 R148). -/
def judgeClaim (p : Port) (payload : List Byte) (s : State) : State :=
  if payload ≠ [] then reply p .range [] s
  else match s.config.holder with
    | none => reply p .ok [BitVec.ofNat 8 p.val, 1] (s.setConfig { s.config with holder := some p })
    | some h =>
      if h = p then reply p .ok [BitVec.ofNat 8 p.val, 0] s else reply p .claimHeld [BitVec.ofNat 8 h.val] s

/-- Release (09 R149). -/
def judgeRelease (p : Port) (payload : List Byte) (s : State) : State :=
  if payload ≠ [] then reply p .range [] s
  else if s.config.holder = some p then reply p .ok [] (freeClaim p s)
  else reply p .notClaimed [optByte s.config.holder] s

/-- SetKeepAlive, past the claim check (09 R154): the table and the named port's controller get the setting. -/
def judgeKeepAlive (p : Port) (payload : List Byte) (s : State) : State :=
  match parseKeepAlive payload with
  | none => reply p .range [] s
  | some (n, k) =>
    let s1 := s.setConfig { s.config with keepAlive := upd s.config.keepAlive n k }
    s1.setLinks { s1.links with
      settings := upd s1.links.settings n (sel s1.links.settings n ++ [{ requester := p, setting := k }]) }

/-- ResetPool, past the claim check (09 R155), which comes before its payload (DEDUCED, assumption 16). -/
def judgeReset (p : Port) (payload : List Byte) (s : State) : State :=
  if payload ≠ [] then reply p .range [] s
  else sendPool .config (.resetPool p) (s.setConfig { s.config with resetList := s.config.resetList ++ [p] })

/-- The owners that configuration requests are routed to (09 R152). -/
def routeConfig (p : Port) (r : Req) (payload : List Byte) (s : State) : State :=
  match r with
  | .defineQueue | .setQueue | .closeQueue | .purgeQueue => sendQueue .config (.request p r payload) s
  | .setBudget => sendPool .config (.setBudget p payload) s
  | .setKeepAlive => judgeKeepAlive p payload s
  | .resetPool => judgeReset p payload s
  | _ => s

/-- A request of a port at the configuration unit: Claim, Release, or the claim check of 09 R152. -/
def judgeConfig (p : Port) (r : Req) (payload : List Byte) (s : State) : State :=
  match r with
  | .claim => judgeClaim p payload s
  | .release => judgeRelease p payload s
  | _ =>
    if s.config.holder = some p then routeConfig p r payload s
    else reply p .notClaimed [optByte s.config.holder] s

/-- A request of a port is taken by the configuration unit. -/
def takeConfigRequest (p : Port) (r : Req) (s : State) : State :=
  match s.links.toConfig.sent (.port p) with
  | .request a c payload :: rest =>
    if a = p ∧ c = r then judgeConfig p r payload (restConfig (.port p) rest s) else s
  | _ => s

/-- A request the configuration unit owns. -/
def configRequest (hand : Port → Req → Frame → State → State) (r : Req) (h : ReqStep) (s : State) : State :=
  match h with
  | .frame p f => hand p r f s
  | .taken p => takeConfigRequest p r s

/-- A configuration request that another block applies. -/
def routedRequest (hand : Port → Req → Frame → State → State) (apply : State → State) (r : Req) (h : CfgStep)
    (s : State) : State :=
  match h with
  | .frame p f => hand p r f s
  | .checked p => takeConfigRequest p r s
  | .applied => apply s

/-- CONFIG_SESSION_END (09 R150). -/
def execConfigSessionEnd (p : Port) (s : State) : Host.Outcome State Fault Refusal :=
  .next (match s.links.toConfig.sent (.port p) with
    | .sessionEnd a :: rest =>
      if a = p then
        reportCleanup p .config
          (if s.config.holder = some p then freeClaim p (restConfig (.port p) rest s) else restConfig (.port p) rest s)
      else s
    | _ => s)

/-- KEEP_ALIVE_TAKEN_REPORT (09 R154): the SetKeepAlive is answered Ok with the port and the setting. -/
def execKeepAliveTakenReport (p : Port) (s : State) : Host.Outcome State Fault Refusal :=
  .next (match s.links.toConfig.sent (.port p) with
    | .settingTaken requester setting :: rest =>
      reply requester .ok ([BitVec.ofNat 8 p.val] ++ byte2 setting) (restConfig (.port p) rest s)
    | _ => s)

/-- COMPLETION_REPORT (09 R157): the ResetPool at the head of the reset list is completed. -/
def execCompletionReport (s : State) : Host.Outcome State Fault Refusal :=
  .next (match s.links.toConfig.sent .pool with
    | .completion :: rest =>
      match s.config.resetList with
      | p :: more =>
        reply p .ok [] <| postAll .config allPorts .poolReset <|
          (restConfig .pool rest s).setConfig { s.config with resetList := more }
      | [] => restConfig .pool rest s
    | _ => s)

end Sys2Proof.Machine
end

