-- ==== Sys2Proof/Machine/PoolManager.lean ====
section
/-! DEFINITION. The pool manager: cells, budgets, the arbiter, the assembly slots, and its part of session ends and of
ResetPool (01 R1 to R20, 03 R48 to R65). -/

namespace Sys2Proof.Machine

/-! ### Cells and charge -/

/-- A message of `n` bytes occupies `n` divided by 64 cells, rounded up (01 R1). -/
def cellsFor (n : Nat) : Nat := (n + 63) / Config.cellSize

/-- A release: the chain joins the tail of the free list and the charge of the port falls by its length (01 R2, R11;
DEDUCED, assumption 20). -/
def Pool.release (x : Pool) (p : Port) (chain : List CellId) : Pool :=
  { x with freeList := x.freeList ++ chain, charge := upd x.charge p (sel x.charge p - chain.length) }

/-- A grant: `n` cells leave the head of the free list and the charge of the port rises (01 R2, R7). -/
def Pool.grant (x : Pool) (p : Port) (n : Nat) : Pool :=
  { x with freeList := x.freeList.drop n, charge := upd x.charge p (sel x.charge p + n) }

/-! ### Session end (03 R60, R61, 01 R19) -/

/-- A PutOpen or Put of the port is held for its slot check (01 R19). -/
def Pool.putHeld (x : Pool) (p : Port) : Bool :=
  x.held.any fun m => match m with
    | .request a .put _ => a == p
    | .request a .putOpen _ => a == p
    | _ => false

/-- The cleanup of a port whose session-end announcement has been taken: deferred behind a PutOpen or Put under way,
left to the return-all step for a Filling slot in Resetting, and done at once otherwise. -/
def poolCleanup (p : Port) (s : State) : State :=
  let x := s.pool
  if (sel x.opening p).isSome || x.putHeld p then s.setPool { x with endDeferred := upd x.endDeferred p true }
  else match sel x.slot p with
    | .empty => reportCleanup p .pool (s.setPool { x with endDeferred := upd x.endDeferred p false })
    | .filling a =>
      if x.resetting then s.setPool { x with endDeferred := upd x.endDeferred p true }
      else
        reportCleanup p .pool <| sendQueue .pool (.pendingDecrement a.queue) <|
          s.setPool { x.release p a.chain with
            slot := upd x.slot p .empty, endDeferred := upd x.endDeferred p false }

/-- Run a deferred cleanup again, now that a request of the port has ended (03 R61). -/
def poolDeferred (p : Port) (s : State) : State := if sel s.pool.endDeferred p then poolCleanup p s else s

/-! ### Requests of the ports -/

/-- The slot check of a PutOpen or Put: Busy for a Filling slot, Range for its arguments, and otherwise the open mark is
set and the queue checks are sent (03 R50, R58). -/
def slotCheck (p : Port) (args : Option PutArgs) (s : State) : State :=
  match sel s.pool.slot p, args with
  | .filling _, _ => poolDeferred p (reply p .busy [] s)
  | .empty, none => poolDeferred p (reply p .range [] s)
  | .empty, some a =>
    sendQueue .pool (.checks p a.queue (cellsFor a.length))
      (s.setPool { s.pool with opening := upd s.pool.opening p (some a) })

/-- PutData at the pool manager (03 R53). -/
def judgePutData (p : Port) (payload : List Byte) (s : State) : State :=
  match sel s.pool.slot p with
  | .empty => reply p .noAssembly [] s
  | .filling a =>
    match parsePutData payload with
    | none => reply p .range (byte2 a.fill) s
    | some (offset, data) =>
      if offset ≠ a.fill then reply p .sequence (byte2 a.fill) s
      else if data = [] ∨ a.length < offset + data.length then reply p .range (byte2 a.fill) s
      else
        reply p .ok (byte2 (a.fill + data.length)) (s.setPool { s.pool with
          slot := upd s.pool.slot p (.filling { a with fill := a.fill + data.length })
          cells := storeBytes a.chain offset data s.pool.cells })

/-- The message record an assembly or a Put becomes (03 R56, R59); the queue engine sets the sequence. -/
def newMessage (p : Port) (length : Nat) (cls : MsgClass) (corr : Option Word) (re : Option QueueId)
    (chain : List CellId) : Message where
  producer := p
  cls := cls
  length := length
  corr := corr
  reply := re
  chain := chain
  sequence := 0
  deliveries := 0
  purged := false
  origin := none

/-- PutCommit at the pool manager (03 R55, R56). -/
def judgePutCommit (p : Port) (payload : List Byte) (s : State) : State :=
  if payload ≠ [] then reply p .range [] s
  else match sel s.pool.slot p with
    | .empty => reply p .noAssembly [] s
    | .filling a =>
      if a.fill < a.length then reply p .lengthMismatch (byte2 a.fill ++ byte2 a.length) s
      else
        sendQueue .pool (.commit a.queue (newMessage p a.length a.cls a.corr a.reply a.chain))
          (s.setPool { s.pool with slot := upd s.pool.slot p .empty })

/-- PutAbort at the pool manager (03 R57). -/
def judgePutAbort (p : Port) (payload : List Byte) (s : State) : State :=
  if payload ≠ [] then reply p .range [] s
  else match sel s.pool.slot p with
    | .empty => reply p .ok ([0, 0xFF] ++ byte2 0) s
    | .filling a =>
      reply p .ok ([1, BitVec.ofNat 8 a.queue.val] ++ byte2 a.fill) <|
        sendQueue .pool (.pendingDecrement a.queue)
          (s.setPool { s.pool.release p a.chain with slot := upd s.pool.slot p .empty })

/-- A request of a port, judged against the pool as it stands. -/
def judgePort (p : Port) (r : Req) (payload : List Byte) (s : State) : State :=
  match r with
  | .put => slotCheck p (parsePut payload) s
  | .putOpen => slotCheck p (parsePutOpen payload) s
  | .putData => judgePutData p payload s
  | .putCommit => judgePutCommit p payload s
  | .putAbort => judgePutAbort p payload s
  | _ => s

/-- SetBudget at the pool manager (01 R14, R15). -/
def judgeBudget (p : Port) (payload : List Byte) (s : State) : State :=
  match parseBudget payload with
  | none => reply p .range [] s
  | some (q, r, l) =>
    let x := s.pool
    let reserve := upd x.reserve q r
    if 4096 < portSum (sel reserve) ∨ sharedSize reserve < sharedInUse x.charge reserve ∨ l < sel x.charge q then
      reply p .inUse [] s
    else reply p .ok [] (s.setPool { x with reserve, limit := upd x.limit q l })

/-- The pool manager enters Resetting and sends the clearing orders (01 R16, R17). -/
def startReset (s : State) : State :=
  sendLease .pool .clearingOrder <| sendQueue .pool .clearingOrder <|
    s.setPool { s.pool with resetting := true, queueCleared := false, leaseCleared := false }

/-- Hold a message in Resetting (01 R16). -/
def holdPool (x : PoolMsg) (s : State) : State := s.setPool { s.pool with held := s.pool.held ++ [x] }

/-- A request of a port is taken: held in Resetting, judged in Normal (01 R16). -/
def takePort (p : Port) (r : Req) (s : State) : State :=
  match s.links.toPool.sent (.port p) with
  | .request a c payload :: rest =>
    if a = p ∧ c = r then
      let s1 := restPool (.port p) rest s
      if s.pool.resetting then holdPool (.request p r payload) s1 else judgePort p r payload s1
    else s
  | _ => s

/-! ### The return-all step (01 R17, R18, R19, 09 R156) -/

/-- The cells that are not on the free list, ascending (DESIGN CHOICE, assumption 7). -/
def Pool.allocated (x : Pool) : List CellId := (cellRun 4096 0).filter fun c => !x.freeList.contains c

/-- The emptied pool, back in Normal (01 R17). -/
def Pool.emptied (x : Pool) : Pool :=
  { x with
    freeList := x.freeList ++ x.allocated
    charge := Vector.replicate 4 0
    slot := Vector.replicate 4 .empty
    resetting := false
    queueCleared := false
    leaseCleared := false }

/-- The ports in round-robin order from the pointer on (01 R9). -/
def arbiterOrder (pointer : Port) : List Port :=
  [pointer, nextPort pointer, nextPort (nextPort pointer), nextPort (nextPort (nextPort pointer))]

/-- A held allocation request goes back to the queue engine for its queue checks (01 R18); the pointer
stays (DEDUCED, assumption 9). -/
def sendBack (s : State) (p : Port) : State :=
  match sel s.pool.standing p with
  | some a =>
    sendQueue .pool (.checks p a.queue a.cells) (s.setPool { s.pool with standing := upd s.pool.standing p none })
  | none => s

/-- Take the held requests in the order they reached the pool manager; a held ResetPool starts the next operation, and
what stands behind it stays held (01 R18, R19). -/
def releaseHeld : List PoolMsg → State → State
  | [], s => s
  | m :: rest, s =>
    let s1 := s.setPool { s.pool with held := rest }
    match m with
    | .request p r payload => releaseHeld rest (judgePort p r payload s1)
    | .setBudget p payload => releaseHeld rest (judgeBudget p payload s1)
    | .resetPool _ => startReset s1
    | _ => releaseHeld rest s1

/-- The return-all step, with what belongs to its happening: the completion goes out, deferred cleanups are done, held
allocation requests go back, and the held requests are taken (01 R17 to R19). The order within the happening is a
DESIGN CHOICE (assumption 10). -/
def returnAll (s : State) : State :=
  let s1 := sendConfig .pool .completion <| sendLease .pool .completion <| sendQueue .pool .completion <|
    s.setPool s.pool.emptied
  let s2 := allPorts.foldl (fun s p => poolDeferred p s) s1
  let s3 := (arbiterOrder s.pool.pointer).foldl sendBack s2
  releaseHeld s3.pool.held s3

/-! ### PUT, PUT_OPEN, PUT_DATA, PUT_COMMIT, PUT_ABORT -/

/-- A request the pool manager owns: its frame ends at the port controller, or the pool manager takes it. -/
def poolRequest (hand : Port → Req → Frame → State → State) (r : Req) (h : ReqStep) (s : State) : State :=
  match h with
  | .frame p f => hand p r f s
  | .taken p => takePort p r s

/-! ### The arbiter (01 R7 to R9) -/

/-- The request the arbiter takes next: that of the pointer port, or of the next port after it that has one. -/
def arbiterPick (x : Pool) : Option Port := (arbiterOrder x.pointer).find? fun p => (sel x.standing p).isSome

/-- Admission refused the cells: the pending count is given back, the open mark cleared, and the answer carries the
cells asked for and the charge (03 R51, R52). -/
def refuseCells (p : Port) (a : AllocReq) (st : Status) (s : State) : State :=
  poolDeferred p <| reply p st (byte1 a.cells ++ byte2 (sel s.pool.charge p)) <|
    sendQueue .pool (.pendingDecrement a.queue) (s.setPool { s.pool with opening := upd s.pool.opening p none })

/-- Admission granted the cells: a PutOpen fills its slot and is answered Ok; a Put stores its bytes and is committed
(03 R52, R59). -/
def grantCells (p : Port) (a : AllocReq) (args : PutArgs) (s : State) : State :=
  let chain := s.pool.freeList.take a.cells
  let x := { s.pool.grant p a.cells with opening := upd s.pool.opening p none }
  match args.data with
  | none =>
    poolDeferred p <| reply p .ok (byte1 a.cells ++ byte2 (sel x.charge p)) <| s.setPool { x with
      slot := upd x.slot p (.filling { queue := args.queue, length := args.length, cls := args.cls,
                                       corr := args.corr, reply := args.reply, fill := 0, chain }) }
  | some data =>
    poolDeferred p <|
      sendQueue .pool (.commit args.queue (newMessage p args.length args.cls args.corr args.reply chain)) <|
        s.setPool { x with cells := storeBytes chain 0 data x.cells }

/-- The arbiter takes the request `a` of port `p`: the pointer moves past the port, and admission judges it (01 R9). -/
def arbitrate (p : Port) (a : AllocReq) (s : State) : State :=
  let s1 := s.setPool { s.pool with standing := upd s.pool.standing p none, pointer := nextPort p }
  match sel s.pool.opening p with
  | none => s1
  | some args =>
    match s.pool.admission p a.cells with
    | .overLimit => refuseCells p a .overLimit s1
    | .noSpace => refuseCells p a .noSpace s1
    | .granted => grantCells p a args s1

/-- ALLOCATION_REQUEST (01 R8, R9, R16): the request comes to stand, or the arbiter takes one, which it does in Normal
only. -/
def execAllocationRequest (h : AllocStep) (s : State) : Host.Outcome State Fault Refusal :=
  .next (match h with
    | .arrives =>
      match s.links.toPool.sent .queue with
      | .alloc p a :: rest =>
        (restPool .queue rest s).setPool { s.pool with standing := upd s.pool.standing p (some a) }
      | _ => s
    | .taken =>
      if s.pool.resetting then s
      else match arbiterPick s.pool with
        | none => s
        | some p =>
          match sel s.pool.standing p with
          | some a => arbitrate p a s
          | none => s)

/-! ### Messages to the pool manager -/

/-- QUEUE_CHECK_REFUSAL (03 R51), in either pool state. A refusal taken in Resetting ends the request, so a session-end
cleanup that waits behind it is reported then (DESIGN CHOICE, assumption 34). -/
def execQueueCheckRefusal (s : State) : Host.Outcome State Fault Refusal :=
  .next (match s.links.toPool.sent .queue with
    | .checkRefusal p st :: rest =>
      poolDeferred p <| reply p st [] <|
        (restPool .queue rest s).setPool { s.pool with opening := upd s.pool.opening p none }
    | _ => s)

/-- RELEASE_REQUEST (01 R11), in either pool state. -/
def execReleaseRequest (src : Block) (s : State) : Host.Outcome State Fault Refusal :=
  .next (match blockSource src with
    | some so =>
      match s.links.toPool.sent so with
      | .release p chain :: rest => (restPool so rest s).setPool (s.pool.release p chain)
      | _ => s
    | none => s)

/-- COMMIT_ANSWER (03 R56, R59): the PutCommit or Put is answered Ok with the queue and the sequence. -/
def execCommitAnswer (s : State) : Host.Outcome State Fault Refusal :=
  .next (match s.links.toPool.sent .queue with
    | .commitAnswer p q n :: rest =>
      reply p .ok ([BitVec.ofNat 8 q.val] ++ byte2 n.toNat) (restPool .queue rest s)
    | _ => s)

/-- POOL_SESSION_END (03 R60, R61, 01 R19). -/
def execPoolSessionEnd (p : Port) (s : State) : Host.Outcome State Fault Refusal :=
  .next (match s.links.toPool.sent (.port p) with
    | .sessionEnd a :: rest => if a = p then poolCleanup p (restPool (.port p) rest s) else s
    | _ => s)

/-- POOL_ATTACH (08 R134): the charge is reported as it stands, in either pool state. -/
def execPoolAttach (p : Port) (s : State) : Host.Outcome State Fault Refusal :=
  .next (match s.links.toPool.sent (.port p) with
    | .attach a :: rest =>
      if a = p then
        reportAttach p { block := .pool, charge := sel s.pool.charge p } (restPool (.port p) rest s)
      else s
    | _ => s)

/-- RESET_START (01 R16, R19): the pool manager takes a ResetPool, or holds it when it is already Resetting. -/
def execResetStart (s : State) : Host.Outcome State Fault Refusal :=
  .next (match s.links.toPool.sent .config with
    | .resetPool p :: rest =>
      if s.pool.resetting then holdPool (.resetPool p) (restPool .config rest s)
      else startReset (restPool .config rest s)
    | _ => s)

/-- The pool manager takes a SetBudget that passed the claim check: held in Resetting (01 R16), else judged. -/
def takeBudget (s : State) : State :=
  match s.links.toPool.sent .config with
  | .setBudget p payload :: rest =>
    if s.pool.resetting then holdPool (.setBudget p payload) (restPool .config rest s)
    else judgeBudget p payload (restPool .config rest s)
  | _ => s

/-- Note the cleared report of the block; with both, the return-all step follows (01 R17). -/
def noteCleared (queue : Bool) (s : State) : State :=
  let s1 := s.setPool { s.pool with
    queueCleared := s.pool.queueCleared || queue, leaseCleared := s.pool.leaseCleared || !queue }
  if s1.pool.queueCleared && s1.pool.leaseCleared then returnAll s1 else s1

/-- CLEARED_REPORT (01 R17). -/
def execClearedReport (src : Block) (s : State) : Host.Outcome State Fault Refusal :=
  .next (match src with
    | .queue =>
      match s.links.toPool.sent .queue with
      | .cleared :: rest => noteCleared true (restPool .queue rest s)
      | _ => s
    | .lease =>
      match s.links.toPool.sent .lease with
      | .cleared :: rest => noteCleared false (restPool .lease rest s)
      | _ => s
    | _ => s)

end Sys2Proof.Machine
end

