-- ==== Sys2Proof/Machine/PortController.lean ====
section
/-! DEFINITION. The port controllers: sessions, keep-alive, PRST, the link, the request engine and the response cache
(08 R130 to R147, 10 R160 to R172). -/

namespace Sys2Proof.Machine

/-! ### Responses -/

/-- The bytes of a response, CRC included (10 section 10.7.1, R170). -/
def Response.bytes (r : Response) : List Byte :=
  let body := [r.status.code, r.tag, r.code, bit r.overrun ||| (bit r.atn <<< 1), r.epoch] ++
    byte2 r.payload.length ++ r.payload
  body ++ crcBytes body

/-- Make a response ready: OVERRUN from the pending flag, which is cleared, and the ATN mirror, as they stand
(10 R165, R166). -/
def makeReady (p : Port) (x : Cached) (s : State) : State :=
  let c := s.port p
  s.setPort p { c with
    engine := .responseReady { status := x.status, tag := x.tag, code := x.code, overrun := c.overrun,
                               atn := atn s.notify p, epoch := x.epoch, payload := x.payload }
    overrun := false }

/-- Build the response to a good frame: it carries the epoch as it stands and replaces the cache (10 R166, 08 R131). -/
def respond (p : Port) (code tag : Byte) (st : Status) (payload : List Byte) (s : State) : State :=
  let x : Cached := { status := st, tag, code, epoch := (s.port p).epoch, payload }
  makeReady p x (s.setPort p { s.port p with cache := some x })

/-- Build a BadFrame response, which leaves the cache alone (10 R163, R168). -/
def respondBad (p : Port) (code tag : Byte) (reason : BadReason) (s : State) : State :=
  makeReady p { status := .badFrame, tag, code, epoch := (s.port p).epoch, payload := [reason.code] } s

/-! ### Session -/

/-- An Attach is being carried out at the port (08 R134). -/
def PortCtl.attaching (c : PortCtl) : Bool :=
  match c.engine with
  | .executing { work := .attachNotify, .. } => true
  | .executing { work := .attachReports _ _, .. } => true
  | _ => false

/-- The timer value that a start or restart gives (08 R139): the setting, or stopped for 0. -/
def timerFor (setting : Nat) : Option Nat := if setting = 0 then none else some setting

/-- A good request frame restarts the keep-alive timer in Attached, but not while an Attach is being carried out
(08 R140). -/
def restartTimer (p : Port) (s : State) : State :=
  let c := s.port p
  if c.session = .attached ∧ ¬c.attaching then s.setPort p { c with timer := timerFor c.setting } else s

/-- The five blocks that clean up after a session (08 R142). -/
def allBlocks : List Block := [.config, .pool, .queue, .lease, .notify]

/-- Announce a session end to the five blocks (08 R142 step 3). -/
def announceEnd (p : Port) (s : State) : State :=
  sendConfig (.port p) (.sessionEnd p) <| sendPool (.port p) (.sessionEnd p) <|
    sendQueue (.port p) (.sessionEnd p) <| sendLease (.port p) (.sessionEnd p) <|
      sendNotify (.port p) (.sessionEnd p) s

/-- A session end; it finds nothing to end outside Attached (08 R142, R144). -/
def sessionEnd (p : Port) (cause : EndCause) (s : State) : State :=
  let c := s.port p
  if c.session = .attached then
    announceEnd p (s.setPort p
      { c with session := .closing, lastEnd := cause, timer := none, outstanding := allBlocks })
  else s

/-- Step 1 of carrying out an Attach (08 R134): the epoch rises, the port is Attached, and the notification unit gets
the announcement. -/
def carryAttach (p : Port) (tag : Byte) (s : State) : State :=
  let c := s.port p
  sendNotify (.port p) (.attach p) (s.setPort p
    { c with session := .attached, epoch := c.epoch + 1
             engine := .executing { code := Req.attach.code, tag, discard := false, work := .attachNotify } })

/-- The port enters Executing with a request. -/
def startExec (p : Port) (code tag : Byte) (w : Work) (s : State) : State :=
  s.setPort p { s.port p with engine := .executing { code, tag, discard := false, work := w } }

/-! ### The end of a good request frame (08 R132) -/

/-- The frame of this code is the one in reception at the port: its first byte was taken in Idle or ResponseReady, and
it is good (10 R162, R163). -/
def frameStands (p : Port) (code : Byte) (f : Frame) (s : State) : Bool :=
  (s.port p).link == .request code && (s.port p).engine == .receiving && f.payload.length ≤ Config.payloadLimit

/-- The cached response a RETRY frame matches (10 R169). -/
def retryMatch (p : Port) (code : Byte) (f : Frame) (s : State) : Option Cached :=
  match (s.port p).cache with
  | some x => if f.retry ∧ x.code = code ∧ x.tag = f.tag then some x else none
  | none => none

/-- Requests that Down and Closing do not answer NoSession (08 R132 step 4). -/
def sessionless : Req → Bool
  | .attach | .poolStatus | .portStatus => true
  | _ => false

/-- Steps 2 to 5 of 08 R132 at the end of a good frame with a known code; `carry` is step 5. -/
def takeFrame (p : Port) (r : Req) (f : Frame) (carry : State → State) (s : State) : State :=
  if frameStands p r.code f s then
    let s1 := restartTimer p (s.setPort p { s.port p with link := .none })
    match retryMatch p r.code f s with
    | some x => makeReady p x s1
    | none =>
      if (s.port p).session ≠ .attached ∧ ¬sessionless r then respond p r.code f.tag .noSession [] s1
      else carry s1
  else s

/-- Hand a request to the pool manager (08 R132 step 5). -/
def handPool (p : Port) (r : Req) (f : Frame) (s : State) : State :=
  takeFrame p r f
    (fun s => sendPool (.port p) (.request p r f.payload) (startExec p r.code f.tag .owner s)) s

/-- Hand a request to the lease manager. -/
def handLease (p : Port) (r : Req) (f : Frame) (s : State) : State :=
  takeFrame p r f
    (fun s => sendLease (.port p) (.request p r f.payload) (startExec p r.code f.tag .owner s)) s

/-- Hand a request to the notification unit. -/
def handNotify (p : Port) (r : Req) (f : Frame) (s : State) : State :=
  takeFrame p r f
    (fun s => sendNotify (.port p) (.request p r f.payload) (startExec p r.code f.tag .owner s)) s

/-- Hand a request to the configuration unit. -/
def handConfig (p : Port) (r : Req) (f : Frame) (s : State) : State :=
  takeFrame p r f
    (fun s => sendConfig (.port p) (.request p r f.payload) (startExec p r.code f.tag .owner s)) s

/-- Hand a request to the queue engine. -/
def handQueue (p : Port) (r : Req) (f : Frame) (s : State) : State :=
  takeFrame p r f
    (fun s => sendQueue (.port p) (.request p r f.payload) (startExec p r.code f.tag .owner s)) s

/-! ### ATTACH, DETACH, NOP -/

/-- Attach: Range for a payload, carried out in Down, held in Closing, and in Attached held behind the session end it
causes (08 R134 to R136). -/
def attachFrame (p : Port) (f : Frame) (s : State) : State :=
  takeFrame p .attach f (fun s =>
    if f.payload ≠ [] then respond p Req.attach.code f.tag .range [] s
    else match (s.port p).session with
      | .down => carryAttach p f.tag s
      | .attached => sessionEnd p .reattach (startExec p Req.attach.code f.tag .heldAttach s)
      | .closing => startExec p Req.attach.code f.tag .heldAttach s) s

/-- ATTACH. -/
def execAttach (p : Port) (f : Frame) (s : State) : Host.Outcome State Fault Refusal := .next (attachFrame p f s)

/-- DETACH (08 R137). -/
def execDetach (p : Port) (f : Frame) (s : State) : Host.Outcome State Fault Refusal :=
  .next (takeFrame p .detach f (fun s =>
    if f.payload ≠ [] then respond p Req.detach.code f.tag .range [] s
    else sessionEnd p .detach (startExec p Req.detach.code f.tag .detach s)) s)

/-- NOP (08 R138). -/
def execNop (p : Port) (f : Frame) (s : State) : Host.Outcome State Fault Refusal :=
  .next (takeFrame p .nop f (fun s =>
    respond p Req.nop.code f.tag (if f.payload ≠ [] then .range else .ok) [] s) s)

/-! ### Other frames -/

/-- The tag byte of the bytes received, 0x00 where there is none (10 R163). -/
def tagOf (bytes : List Byte) : Byte := bytes.getD 1 0

/-- BAD_FRAME (10 R163): a frame begun in Idle or ResponseReady is answered BadFrame with the first reason found. -/
def execBadFrame (p : Port) (bytes : List Byte) (s : State) : Host.Outcome State Fault Refusal :=
  .next (
    if (s.port p).link = .request (bytes.getD 0 0) ∧ (s.port p).engine = .receiving ∧ bytes ≠ [] then
      match judgeFrame bytes with
      | .inl reason =>
        respondBad p (bytes.getD 0 0) (tagOf bytes) reason (s.setPort p { s.port p with link := .none })
      | .inr _ => s
    else s)

/-- UNKNOWN_REQUEST (10 R164): RETRY is matched first (08 R132 step 2); the response replaces the cache. -/
def execUnknownRequest (p : Port) (code : Byte) (f : Frame) (s : State) : Host.Outcome State Fault Refusal :=
  .next (
    if frameStands p code f s ∧ ¬knownCode code then
      let s1 := restartTimer p (s.setPort p { s.port p with link := .none })
      match retryMatch p code f s with
      | some x => makeReady p x s1
      | none => respond p code f.tag .unknownRequest [] s1
    else s)

/-- OVERRUN_FRAME (10 R165): the frame is discarded and the pending flag set; a good one restarts the timer
(08 R140). -/
def execOverrunFrame (p : Port) (bytes : List Byte) (s : State) : Host.Outcome State Fault Refusal :=
  .next (
    if (s.port p).link = .overrun then
      let s1 := s.setPort p { s.port p with link := .none, overrun := true }
      if isBad bytes then s1 else restartTimer p s1
    else s)

/-- The presence byte: 0xA5 in ResponseReady, else the not-ready byte (10 R160). -/
def presence (ready : Bool) : Byte := if ready then 0xA5 else 0x00

/-- The link ignores transactions while PRST is asserted or RESET is low (10 R160, 08 R146). -/
def linkIgnored (p : Port) (s : State) : Bool := s.resetLow || (s.port p).prst

/-- The assertion of SEL at a port (10 R160): the presence byte is decided by the state of the engine at this moment.
Under PRST or RESET no transaction begins and the not-ready byte is shifted out (08 R146). While a transaction is open the
command stands for nothing (DESIGN CHOICE, assumption 30). -/
def assertSel (p : Port) (s : State) : State :=
  let c := s.port p
  if c.link ≠ .none then s
  else if linkIgnored p s then s.setPort p { c with shifted := [presence false] }
  else s.setPort p { c with link := .selected (rdy c), shifted := [presence (rdy c)] }

/-- The first byte of a request transaction has been clocked (10 R162, R165): Receiving from Idle or ResponseReady, whose
response is discarded, and an overrun frame in Executing, by the state of the engine at this byte. The byte 0x00 begins a
response read instead (10 R160). -/
def firstByte (p : Port) (code : Byte) (s : State) : State :=
  let c := s.port p
  if code = 0 ∨ linkIgnored p s then s
  else match c.link, c.engine with
    | .selected _, .executing _ => s.setPort p { c with link := .overrun }
    | .selected _, _ => s.setPort p { c with engine := .receiving, link := .request code }
    | _, _ => s

/-- REQUEST_FIRST_BYTE (10 R160, R162, R165). -/
def execRequestFirstByte (p : Port) (h : FirstStep) (s : State) : Host.Outcome State Fault Refusal :=
  .next (match h with
    | .select => assertSel p s
    | .byte code => firstByte p code s)

/-- SEL is deasserted in a response read, or before a whole first byte, which changes no state but that of the link
(10 R160, R167): the response bytes follow the presence byte, then filler, and the read is completed when every byte of
the response has been shifted out. -/
def endRead (p : Port) (n : Nat) (s : State) : State :=
  let c := s.port p
  match c.link, c.engine with
  | .selected _, _ => s.setPort p { c with link := .none }
  | .reading true, .responseReady r =>
    s.setPort p { c with
      link := .none
      shifted := presence true :: (r.bytes.take n ++ List.replicate (n - r.bytes.length) 0xFF)
      engine := if r.bytes.length ≤ n then .idle else c.engine }
  | .reading _, _ => s.setPort p { c with link := .none, shifted := presence false :: List.replicate n 0xFF }
  | _, _ => s

/-- RESPONSE_READ (10 R160, R167): the first byte 0x00 makes the transaction a response read, with the presence that the
assertion of SEL decided. -/
def execResponseRead (p : Port) (h : ReadStep) (s : State) : Host.Outcome State Fault Refusal :=
  .next (match h with
    | .select => assertSel p s
    | .firstByte =>
      match (s.port p).link with
      | .selected b => if linkIgnored p s then s else s.setPort p { s.port p with link := .reading b }
      | _ => s
    | .deselect n => endRead p n s)

/-- The byte MISO carries at place `n` of the transaction under SEL (10 R160, R167): the presence byte, then the bytes of
the response that is read, and filler 0xFF past them and in every other transaction. -/
def PortCtl.miso (c : PortCtl) : Nat → Byte
  | 0 => c.shifted.headD (presence false)
  | n + 1 =>
    match c.link, c.engine with
    | .reading true, .responseReady r => r.bytes.getD n 0xFF
    | _, _ => 0xFF

/-! ### Owners' answers (08 R133) -/

/-- The fields of a PortStatus or PoolStatus part (11 R173, R175); the widths are DEDUCED from 10 R171
(assumption 26). -/
def StatusPart.bytes : StatusPart → List Byte
  | .controller se ep le st re => [se.code, ep, le.code] ++ byte2 st ++ byte2 re
  | .poolPort ch re li sl => byte2 ch ++ byte2 re ++ byte2 li ++
    match sl with
    | .empty => [0, 0xFF] ++ byte2 0 ++ byte2 0
    | .filling a => [1, BitVec.ofNat 8 a.queue.val] ++ byte2 a.length ++ byte2 a.fill
  | .leases es => byte1 es.length ++ es.flatMap fun e => byte1 e.1 ++ byte1 e.2.1.val ++ byte2 e.2.2
  | .notes n => byte1 n
  | .claim h => [bit h]
  | .poolCounts fr sh us _ => byte2 fr ++ byte2 sh ++ byte2 us
  | .timeBase t => byte4 t
  | .misfit => []

/-- Where a part stands in its report (11 R173, R175). -/
def StatusPart.rank : StatusPart → Nat
  | .controller _ _ _ _ _ => 0 | .poolPort _ _ _ _ => 1 | .leases _ => 2 | .notes _ => 3 | .claim _ => 4
  | .poolCounts _ _ _ _ => 5 | .timeBase _ => 6 | .misfit => 7

/-- The pool state field, which ends a PoolStatus report (11 R173). -/
def StatusPart.tail : StatusPart → List Byte
  | .poolCounts _ _ _ re => [bit re]
  | _ => []

/-- The payload of a status report: the parts in the order of 11 R173 and R175. -/
def reportBytes (parts : List StatusPart) : List Byte :=
  ((List.range 7).flatMap fun k => (parts.filter (·.rank = k)).flatMap StatusPart.bytes) ++
    parts.flatMap StatusPart.tail

/-- The status and payload that the parts of a status request make: Range where a taker found a misfit (10 R164). -/
def statusAnswer (parts : List StatusPart) : Status × List Byte :=
  if .misfit ∈ parts then (.range, []) else (.ok, reportBytes parts)

/-- The answer `x` meets the request in Executing: the response is built, or nothing is built where PRST has marked it
(10 R166, 08 R145); a part of a status answer waits for the others (11 R173, R174). A status request that PRST has marked
leaves Executing with the last of its parts (DESIGN CHOICE, assumption 32). -/
def takeAnswer (p : Port) (e : ExecReq) (x : Answer) (s : State) : State :=
  let finish (st : Status) (payload : List Byte) : State :=
    if e.discard then s.setPort p { s.port p with engine := .idle } else respond p e.code e.tag st payload s
  match x, e.work with
  | .final st payload, _ => finish st payload
  | .part part, .status needed parts =>
    if (parts ++ [part]).length < needed then
      s.setPort p { s.port p with engine := .executing { e with work := .status needed (parts ++ [part]) } }
    else finish (statusAnswer (parts ++ [part])).1 (statusAnswer (parts ++ [part])).2
  | .part _, _ => s

/-- OWNER_ANSWER (08 R133); an answer that meets nothing in Executing is consumed (DESIGN CHOICE, assumption 31). -/
def execOwnerAnswer (p : Port) (s : State) : Host.Outcome State Fault Refusal :=
  .next (match sel s.links.answers p with
    | x :: rest =>
      let s1 := s.setLinks { s.links with answers := upd s.links.answers p rest }
      match (s.port p).engine with
      | .executing e => takeAnswer p e x s1
      | _ => s1
    | [] => s)

/-! ### Session end, Attach and their reports -/

/-- The port reaches Down (08 R143): a held Attach is carried out at once, a Detach is answered Ok. -/
def reachDown (p : Port) (s : State) : State :=
  let s1 := s.setPort p { s.port p with session := .down }
  match (s.port p).engine with
  | .executing e =>
    match e.work with
    | .heldAttach => carryAttach p e.tag s1
    | .detach =>
      if e.discard then s1.setPort p { s1.port p with engine := .idle }
      else respond p e.code e.tag .ok [] s1
    | _ => s1
  | _ => s1

/-- CLEANUP_REPORT (08 R143): the block leaves the outstanding reports; with the last one the port is Down. -/
def execCleanupReport (p : Port) (b : Block) (s : State) : Host.Outcome State Fault Refusal :=
  .next (
    if b ∈ sel s.links.cleanups p then
      let s1 := s.setLinks { s.links with cleanups := upd s.links.cleanups p ((sel s.links.cleanups p).erase b) }
      let left := (s.port p).outstanding.erase b
      let s2 := s1.setPort p { s.port p with outstanding := left }
      if (s.port p).session = .closing ∧ left = [] then reachDown p s2 else s2
    else s)

/-- NOTIFY_ENABLED_REPORT (08 R134 step 2). -/
def execNotifyEnabledReport (p : Port) (s : State) : Host.Outcome State Fault Refusal :=
  .next (
    if sel s.links.enabled p then
      let s1 := s.setLinks { s.links with enabled := upd s.links.enabled p false }
      match (s.port p).engine with
      | .executing e =>
        if e.work = .attachNotify then
          sendLease (.port p) (.attach p) <| sendQueue (.port p) (.attach p) <| sendPool (.port p) (.attach p) <|
            s1.setPort p { s.port p with
              engine := .executing { e with work := .attachReports [.lease, .queue, .pool] 0 } }
        else s1
      | _ => s1
    else s)

/-- The last Attach report has been taken (08 R134 step 3, R144): the response is built and the timer starts, or the
deferred session end comes. -/
def finishAttach (p : Port) (e : ExecReq) (charge : Nat) (s : State) : State :=
  let c := s.port p
  if c.deferredReset then
    sessionEnd p .portReset (s.setPort p { c with engine := .idle, deferredReset := false })
  else
    let s1 := respond p e.code e.tag .ok ([BitVec.ofNat 8 p.val, c.epoch] ++ byte2 charge ++ [c.lastEnd.code]) s
    s1.setPort p { s1.port p with timer := timerFor c.setting }

/-- ATTACH_REPORT (08 R134). -/
def execAttachReport (p : Port) (b : Block) (s : State) : Host.Outcome State Fault Refusal :=
  .next (match (sel s.links.attachReports p).find? (·.block = b) with
    | some x =>
      let s1 := s.setLinks { s.links with
        attachReports := upd s.links.attachReports p ((sel s.links.attachReports p).erase x) }
      match (s.port p).engine with
      | .executing e =>
        match e.work with
        | .attachReports left charge =>
          let charge' := if b = .pool then x.charge else charge
          if left.erase b = [] then finishAttach p e charge' s1
          else s1.setPort p { s.port p with engine := .executing { e with work := .attachReports (left.erase b) charge' } }
        | _ => s1
      | _ => s1
    | none => s)

/-! ### Keep-alive -/

/-- One tick of the port controller (08 R139): a running timer counts down, and at 0 it runs out. -/
def tick (p : Port) (s : State) : State :=
  let c := s.port p
  match c.timer with
  | none => s
  | some n =>
    if n ≤ 1 then sessionEnd p .timeout (s.setPort p { c with timer := none })
    else s.setPort p { c with timer := some (n - 1) }

/-- KEEP_ALIVE_TICK (08 R139), given as a command (DESIGN CHOICE, assumption 12). -/
def execKeepAliveTick (p : Port) (s : State) : Host.Outcome State Fault Refusal := .next (tick p s)

/-- KEEP_ALIVE_TIMEOUT (08 R139): the tick that brings the remaining time to 0 (DESIGN CHOICE,
assumption 11). -/
def execKeepAliveTimeout (p : Port) (s : State) : Host.Outcome State Fault Refusal :=
  .next (if (s.port p).timer = some 1 then tick p s else s)

/-- KEEP_ALIVE_SETTING (08 R140, 09 R154): the setting in use changes, the timer restarts or stops, and the report
goes back. -/
def execKeepAliveSetting (p : Port) (s : State) : Host.Outcome State Fault Refusal :=
  .next (match sel s.links.settings p with
    | x :: rest =>
      let s1 := s.setLinks { s.links with settings := upd s.links.settings p rest }
      sendConfig (.port p) (.settingTaken x.requester x.setting)
        (restartTimer p (s1.setPort p { s.port p with setting := x.setting }))
    | [] => s)

/-! ### PRST and RESET -/

/-- What PRST leaves of the request engine (08 R145): a request in Executing runs on, marked; a held Attach is
withdrawn and leaves Idle (DEDUCED, assumption 14); anything else is Idle. -/
def ReqEngine.afterPrst : ReqEngine → ReqEngine
  | .executing e => if e.work = .heldAttach then .idle else .executing { e with discard := true }
  | _ => .idle

/-- PRST_ASSERT (08 R144, R145); a line already asserted has no further assertion. -/
def execPrstAssert (p : Port) (s : State) : Host.Outcome State Fault Refusal :=
  let c := s.port p
  .next (
    if c.prst then s
    else
      let s1 := s.setPort p { c with
        engine := c.engine.afterPrst, cache := none, overrun := false, prst := true, link := .none
        deferredReset := c.deferredReset || (c.attaching && c.session == .attached) }
      if c.attaching then s1 else sessionEnd p .portReset s1)

/-- PRST_RELEASE (08 R146): transactions are taken again; what has not been answered stays in Executing. -/
def execPrstRelease (p : Port) (s : State) : Host.Outcome State Fault Refusal :=
  .next (if (s.port p).prst then s.setPort p { s.port p with prst := false } else s)

/-- The state a device reset leaves (10 R172): every block at its reset value, nothing in flight; the PRST inputs keep
their level (DESIGN CHOICE, assumption 24), and the commands that wait are outside the part. -/
def afterReset (low : Bool) (s : State) : State :=
  { State.reset with
    ports := Vector.ofFn fun p : Port => { PortCtl.reset with prst := (s.port p).prst }
    resetLow := low
    pending := s.pending }

/-- DEVICE_RESET (10 R172). -/
def execDeviceReset (s : State) : Host.Outcome State Fault Refusal := .next (afterReset true s)

/-- RESET_RELEASE (10 R172): the link and the time base run from the reset state. -/
def execResetRelease (s : State) : Host.Outcome State Fault Refusal := .next { s with resetLow := false }

end Sys2Proof.Machine
end

