-- ==== Sys2Proof/Machine/QueueEngine.lean ====
section
/-! DEFINITION. The queue engine: the 32 queues, their lists and counts, definitions, draining and purging, dead-letter
arrivals, and its part of session ends and of ResetPool (02 R21 to R47, 06 R103 to R106, R116). -/

namespace Sys2Proof.Machine

/-! ### Positions in a list (02 R28) -/

/-- A message joins the tail of its class: an urgent one before the first normal message, a normal one at the end. -/
def joinTail (m : Message) : List Message → List Message
  | [] => [m]
  | x :: rest => if m.cls = .urgent ∧ x.cls = .normal then m :: x :: rest else x :: joinTail m rest

/-- A message joins the head of its class: an urgent one at the head, a normal one behind every urgent message. -/
def joinHead (m : Message) : List Message → List Message
  | [] => [m]
  | x :: rest => if m.cls = .normal ∧ x.cls = .urgent then x :: joinHead m rest else m :: x :: rest

/-- Arrival is posted to the consumer when the queued count went from 0 to 1 (02 R33). -/
def postArrival (q : QueueId) (before : Queue) (s : State) : State :=
  if before.list = [] then postNote .queue before.consumer (.arrival q) s else s

/-! ### Draining (02 R38) -/

/-- The consumer and the ports of the producer set, each once; the consumer first (DESIGN CHOICE, assumption 19). -/
def Queue.closedPorts (r : Queue) : List Port := r.consumer :: r.producerPorts.filter (· != r.consumer)

/-- A Draining queue whose occupancy is 0 completes its drain: Unused, flag clear, QueueClosed posted. -/
def completeDrain (q : QueueId) (s : State) : State :=
  let r := s.queue q
  if r.state = .draining ∧ r.occupancy = 0 then
    postAll .queue r.closedPorts (.queueClosed q) (s.setQueue q { r with state := .unused, flag := false })
  else s

/-- What follows a change of a queue's occupancy: the flag is evaluated, then a drain may complete (06 R104, R106); the
order of the posts is a DESIGN CHOICE (assumption 19). -/
def settleQueue (q : QueueId) (s : State) : State := completeDrain q (evalFlag q s)

/-! ### Queue checks, commits, decrements (02 R31 to R34) -/

/-- The queue checks of a PutOpen or Put (02 R31). -/
def Queue.putCheck (r : Queue) (p : Port) : Option Status :=
  if r.state ≠ .opened then some .queueNotOpen
  else if ¬r.producers.getLsbD p.val then some .notProducer
  else if r.depth ≤ r.occupancy then some .queueFull
  else none

/-- The queue checks are judged: a refusal goes back, or the pending count rises and the allocation request goes to the
pool manager (02 R31, 01 R8). -/
def judgeChecks (p : Port) (q : QueueId) (cells : Nat) (s : State) : State :=
  let r := s.queue q
  match r.putCheck p with
  | some st => sendPool .queue (.checkRefusal p st) s
  | none =>
    sendPool .queue (.alloc p { cells, queue := q }) (evalFlag q (s.setQueue q { r with pending := r.pending + 1 }))

/-- A commit joins the tail of its class with the next sequence (02 R30, R33). -/
def takeCommit (q : QueueId) (m : Message) (s : State) : State :=
  let r := s.queue q
  let m' := { m with sequence := r.nextSeq, deliveries := 0 }
  sendPool .queue (.commitAnswer m.producer q r.nextSeq) <| postArrival q r <|
    s.setQueue q { r with list := joinTail m' r.list, pending := r.pending - 1, nextSeq := r.nextSeq + 1 }

/-- A pending decrement (02 R32). -/
def takePendingDecrement (q : QueueId) (s : State) : State :=
  settleQueue q (s.setQueue q { s.queue q with pending := (s.queue q).pending - 1 })

/-- A leased decrement (02 R34). -/
def takeLeasedDecrement (q : QueueId) (s : State) : State :=
  settleQueue q (s.setQueue q { s.queue q with leased := (s.queue q).leased - 1 })

/-- A reinsertion joins the head of its class (02 R34). -/
def takeReinsertion (q : QueueId) (m : Message) (s : State) : State :=
  let r := s.queue q
  postArrival q r (s.setQueue q { r with list := joinHead m r.list, leased := r.leased - 1 })

/-! ### Head removal (02 R29) -/

/-- The head removal of a Take is judged and answered. -/
def judgeHead (p : Port) (q : QueueId) (s : State) : State :=
  let r := s.queue q
  if r.state = .unused then sendLease .queue (.headAnswer p (.refused .queueNotOpen)) s
  else if r.consumer ≠ p then sendLease .queue (.headAnswer p (.refused .notConsumer)) s
  else match r.list with
    | [] => sendLease .queue (.headAnswer p (.refused .empty)) s
    | m :: rest =>
      sendLease .queue (.headAnswer p (.message m r.period r.mode))
        (s.setQueue q { r with list := rest, leased := r.leased + 1 })

/-! ### The dead-letter step (02 R35) -/

/-- The dead-letter queue that takes the messages of `q` at this moment: named, Open and with room. -/
def deadTarget (q : QueueId) (s : State) : Option QueueId :=
  match (s.queue q).deadLetter with
  | some d => if (s.queue d).state = .opened ∧ (s.queue d).occupancy < (s.queue d).depth then some d else none
  | none => none

/-- Moved or Dropped, as one happening (02 R35, 05 R96, R97, R99). -/
def takeDeadLetter (q : QueueId) (m : Message) (cause : DeadCause) (s : State) : State :=
  match deadTarget q s with
  | some d =>
    let s1 := s.setQueue q { s.queue q with leased := (s.queue q).leased - 1 }
    let r := s1.queue d
    let m' := { m with sequence := r.nextSeq, deliveries := 0, origin := some (q, cause) }
    let s2 := postArrival d r (s1.setQueue d { r with list := joinTail m' r.list, nextSeq := r.nextSeq + 1 })
    sendLease .queue (.deadAnswer (.moved q)) (completeDrain q (evalFlag d (evalFlag q s2)))
  | none =>
    sendLease .queue (.deadAnswer (.dropped q cause m)) <| settleQueue q <|
      s.setQueue q { s.queue q with
        leased := (s.queue q).leased - 1
        dropped := if (s.queue q).dropped < 65535 then (s.queue q).dropped + 1 else 65535 }

/-! ### Configuration requests -/

/-- No Open or Draining queue names `q` as its dead-letter queue (02 R26 check 4). -/
def unreferenced (q : QueueId) (s : State) : Bool :=
  allQueues.all fun k => !((s.queue k).live && (s.queue k).deadLetter == some q)

/-- The checks of a DefineQueue against the queue table (02 R26). -/
def defineCheck (q : QueueId) (d : Definition) (s : State) : Option Status :=
  if (s.queue q).state ≠ .unused then some .inUse
  else match d.deadLetter with
    | none => none
    | some k =>
      if (s.queue k).state ≠ .opened then some .queueNotOpen
      else if (s.queue k).deadLetter ≠ none then some .inUse
      else if ¬unreferenced q s then some .inUse
      else none

/-- A queue record with new settable fields (02 R44). -/
def Queue.withSettable (r : Queue) (x : Settable) : Queue :=
  { r with producers := x.producers, depth := x.depth, high := x.high, low := x.low, period := x.period,
           limit := x.limit, producerEnd := x.producerEnd }

/-- The settings notice of a queue (05 R89). -/
def noticeSettings (q : QueueId) (s : State) : State :=
  sendLease .queue (.settings q (s.queue q).limit (s.queue q).period) s

/-- DefineQueue at the queue engine (02 R25 to R27). -/
def judgeDefine (p : Port) (payload : List Byte) (s : State) : State :=
  match parseDefine payload with
  | none => reply p .range [] s
  | some (q, d) =>
    match defineCheck q d s with
    | some st => reply p st [] s
    | none =>
      let r := s.queue q
      reply p .ok [] <| noticeSettings q <| s.setQueue q
        { r.withSettable d.settable with
          state := .opened, consumer := d.consumer, mode := d.mode, deadLetter := d.deadLetter
          list := [], leased := 0, pending := 0, flag := false }

/-- SetQueue at the queue engine (02 R43, R44, 06 R105). -/
def judgeSet (p : Port) (payload : List Byte) (s : State) : State :=
  match parseSet payload with
  | none => reply p .range [] s
  | some (q, x) =>
    let r := s.queue q
    if r.state = .unused then reply p .queueNotOpen [] s
    else if x.depth < r.occupancy then reply p .inUse [] s
    else reply p .ok [] <| noticeSettings q <| evalFlag q <| s.setQueue q (r.withSettable x)

/-- CloseQueue at the queue engine (02 R37). -/
def judgeClose (p : Port) (payload : List Byte) (s : State) : State :=
  match parseQueue payload with
  | none => reply p .range [] s
  | some q =>
    let r := s.queue q
    match r.state with
    | .unused => reply p .queueNotOpen [] s
    | .draining => reply p .ok [r.state.code] s
    | .opened =>
      let s1 := completeDrain q (s.setQueue q { r with state := .draining })
      reply p .ok [(s1.queue q).state.code] s1

/-- Release the cells of removed messages to their producers, in list order (02 R40). -/
def releaseAll (l : List Message) (s : State) : State :=
  l.foldl (fun s m => sendPool .queue (.release m.producer m.chain) s) s

/-- Remove the entries of a list that `gone` names, release their cells, and have the leased messages marked
(02 R40, R42); the flag is evaluated even where nothing is removed (DESIGN CHOICE, assumption 31). -/
def purgeList (q : QueueId) (gone : Message → Bool) (producer : Option Port) (s : State) : State :=
  let r := s.queue q
  let s1 := releaseAll (r.list.filter gone) (s.setQueue q { r with list := r.list.filter fun m => !gone m })
  settleQueue q (if 0 < r.leased then sendLease .queue (.purgeMark q producer) s1 else s1)

/-- PurgeQueue at the queue engine (02 R39, R40). -/
def judgePurge (p : Port) (payload : List Byte) (s : State) : State :=
  match parseQueue payload with
  | none => reply p .range [] s
  | some q =>
    let r := s.queue q
    if r.state = .unused then reply p .queueNotOpen [] s
    else reply p .ok (byte2 r.queued ++ byte2 r.leased) (purgeList q (fun _ => true) none s)

/-- The payload of a QueueStatus (11 R176); the widths are DEDUCED from 10 R171 (assumption 26). -/
def statusBytes (q : QueueId) (r : Queue) : List Byte :=
  [r.state.code, BitVec.ofNat 8 r.consumer.val, r.producers.zeroExtend 8] ++ byte2 r.depth ++ byte2 r.high ++
  byte2 r.low ++ byte2 r.period ++ byte1 r.limit ++ [r.mode.code, r.producerEnd.code, optByte r.deadLetter] ++
  byte2 r.queued ++ byte2 r.leased ++ byte1 r.pending ++ byte2 r.occupancy ++ byte2 r.urgents ++ byte2 r.normals ++
  [bit r.flag] ++ byte2 r.nextSeq.toNat ++ byte2 r.dropped ++
  match r.list with
  | m :: _ => [1] ++ descriptor q m
  | [] => [0] ++ List.replicate 16 0

/-- QueueStatus at the queue engine (11 R176). -/
def judgeStatus (p : Port) (payload : List Byte) (s : State) : State :=
  match parseQueue payload with
  | none => reply p .range [] s
  | some q => reply p .ok (statusBytes q (s.queue q)) s

/-! ### What the reset hold holds (02 R46) -/

/-- A message that the reset hold holds, judged against the queues as they stand. -/
def judgeQueue (x : QueueMsg) (s : State) : State :=
  match x with
  | .checks p q cells => judgeChecks p q cells s
  | .headRemoval p q => judgeHead p q s
  | .request p .defineQueue payload => judgeDefine p payload s
  | .request p .setQueue payload => judgeSet p payload s
  | .request p .closeQueue payload => judgeClose p payload s
  | .request p .purgeQueue payload => judgePurge p payload s
  | .request p .queueStatus payload => judgeStatus p payload s
  | _ => s

/-- Hold a message in the reset hold, or judge it. -/
def holdOrJudge (x : QueueMsg) (s : State) : State :=
  if s.engine.hold then s.setEngine { s.engine with held := s.engine.held ++ [x] } else judgeQueue x s

/-- A request that a sender has passed on is taken by the queue engine. -/
def takeQueueRequest (src : Source) (r : Req) (s : State) : State :=
  match s.links.toQueue.sent src with
  | .request p c payload :: rest => if c = r then holdOrJudge (.request p c payload) (restQueue src rest s) else s
  | _ => s

/-! ### Commands -/

/-- QUEUE_CHECKS (02 R31, R46). -/
def execQueueChecks (s : State) : Host.Outcome State Fault Refusal :=
  .next (match s.links.toQueue.sent .pool with
    | .checks p q cells :: rest => holdOrJudge (.checks p q cells) (restQueue .pool rest s)
    | _ => s)

/-- COMMIT (02 R33). -/
def execCommit (s : State) : Host.Outcome State Fault Refusal :=
  .next (match s.links.toQueue.sent .pool with
    | .commit q m :: rest => takeCommit q m (restQueue .pool rest s)
    | _ => s)

/-- PENDING_DECREMENT (02 R32). -/
def execPendingDecrement (s : State) : Host.Outcome State Fault Refusal :=
  .next (match s.links.toQueue.sent .pool with
    | .pendingDecrement q :: rest => takePendingDecrement q (restQueue .pool rest s)
    | _ => s)

/-- HEAD_REMOVAL (02 R29, R46). -/
def execHeadRemoval (s : State) : Host.Outcome State Fault Refusal :=
  .next (match s.links.toQueue.sent .lease with
    | .headRemoval p q :: rest => holdOrJudge (.headRemoval p q) (restQueue .lease rest s)
    | _ => s)

/-- REINSERTION (02 R34); in the reset hold the message is discarded (02 R46). -/
def execReinsertion (s : State) : Host.Outcome State Fault Refusal :=
  .next (match s.links.toQueue.sent .lease with
    | .reinsertion q m :: rest =>
      if s.engine.hold then restQueue .lease rest s else takeReinsertion q m (restQueue .lease rest s)
    | _ => s)

/-- LEASED_DECREMENT (02 R34); in the reset hold it has no effect (02 R46). -/
def execLeasedDecrement (s : State) : Host.Outcome State Fault Refusal :=
  .next (match s.links.toQueue.sent .lease with
    | .leasedDecrement q :: rest =>
      if s.engine.hold then restQueue .lease rest s else takeLeasedDecrement q (restQueue .lease rest s)
    | _ => s)

/-- DEAD_LETTER_REQUEST (02 R35); in the reset hold it is answered Cleared (02 R46, 05 R100). -/
def execDeadLetterRequest (s : State) : Host.Outcome State Fault Refusal :=
  .next (match s.links.toQueue.sent .lease with
    | .deadLetter q m cause :: rest =>
      if s.engine.hold then sendLease .queue (.deadAnswer .cleared) (restQueue .lease rest s)
      else takeDeadLetter q m cause (restQueue .lease rest s)
    | _ => s)

/-- The producer purge of one queue at a session end (02 R42). -/
def purgeProducer (p : Port) (s : State) (q : QueueId) : State :=
  if (s.queue q).live ∧ (s.queue q).producerEnd = .purge then purgeList q (fun m => m.producer = p) (some p) s
  else s

/-- QUEUE_SESSION_END (02 R42). -/
def execQueueSessionEnd (p : Port) (s : State) : Host.Outcome State Fault Refusal :=
  .next (match s.links.toQueue.sent (.port p) with
    | .sessionEnd a :: rest =>
      if a = p then reportCleanup p .queue (allQueues.foldl (purgeProducer p) (restQueue (.port p) rest s)) else s
    | _ => s)

/-- The Arrival that an Attach brings for one queue (06 R116). -/
def attachArrival (p : Port) (s : State) (q : QueueId) : State :=
  if (s.queue q).live ∧ (s.queue q).consumer = p ∧ (s.queue q).list ≠ [] then
    postNote .queue p (.arrival q) s
  else s

/-- QUEUE_ATTACH (06 R116, 08 R134). -/
def execQueueAttach (p : Port) (s : State) : Host.Outcome State Fault Refusal :=
  .next (match s.links.toQueue.sent (.port p) with
    | .attach a :: rest =>
      if a = p then
        reportAttach p { block := .queue, charge := 0 }
          (allQueues.foldl (attachArrival p) (restQueue (.port p) rest s))
      else s
    | _ => s)

/-! ### ResetPool (02 R45, R46) -/

/-- A queue record after the clearing (02 R45). -/
def Queue.cleared (r : Queue) : Queue :=
  { r with
    state := if r.state = .draining then .unused else r.state
    list := [], leased := 0, pending := 0, flag := false }

/-- Clear one queue. -/
def clearQueue (s : State) (q : QueueId) : State := s.setQueue q (s.queue q).cleared

/-- Report cleared once the clearing order and the cancellation notice have both been taken (02 R45). -/
def reportCleared (s : State) : State :=
  if s.engine.gotOrder && s.engine.gotNotice then
    sendPool .queue .cleared (s.setEngine { s.engine with gotOrder := false, gotNotice := false })
  else s

/-- QUEUE_CLEARING_ORDER (02 R45). -/
def execQueueClearingOrder (s : State) : Host.Outcome State Fault Refusal :=
  .next (match s.links.toQueue.sent .pool with
    | .clearingOrder :: rest =>
      let s1 := allQueues.foldl clearQueue (restQueue .pool rest s)
      reportCleared (s1.setEngine { s1.engine with hold := true, gotOrder := true })
    | _ => s)

/-- CANCELLATION_NOTICE (02 R45). -/
def execCancellationNotice (s : State) : Host.Outcome State Fault Refusal :=
  .next (match s.links.toQueue.sent .lease with
    | .cancelled :: rest =>
      reportCleared ((restQueue .lease rest s).setEngine { s.engine with gotNotice := true })
    | _ => s)

/-- QUEUE_RESET_COMPLETION (02 R46): the hold ends and the held requests are taken in their order. -/
def execQueueResetCompletion (s : State) : Host.Outcome State Fault Refusal :=
  .next (match s.links.toQueue.sent .pool with
    | .completion :: rest =>
      s.engine.held.foldl (fun s x => judgeQueue x s)
        ((restQueue .pool rest s).setEngine { s.engine with hold := false, held := [] })
    | _ => s)

end Sys2Proof.Machine
end

