-- ==== Sys2Proof/Machine/ConfigRequests.lean ====
section
/-! DEFINITION. Claim, Release and the requests that need the claim (09 R148 to R155). -/

namespace Sys2Proof.Machine

/-- CLAIM (09 R148). -/
def execClaim (h : ReqStep) (s : State) : Host.Outcome State Fault Refusal :=
  .next (configRequest handConfig .claim h s)

/-- RELEASE (09 R149). -/
def execRelease (h : ReqStep) (s : State) : Host.Outcome State Fault Refusal :=
  .next (configRequest handConfig .release h s)

/-- DEFINE_QUEUE (02 R25 to R27, 09 R152). -/
def execDefineQueue (h : CfgStep) (s : State) : Host.Outcome State Fault Refusal :=
  .next (routedRequest handConfig (takeQueueRequest .config .defineQueue) .defineQueue h s)

/-- SET_QUEUE (02 R43, R44, 09 R152). -/
def execSetQueue (h : CfgStep) (s : State) : Host.Outcome State Fault Refusal :=
  .next (routedRequest handConfig (takeQueueRequest .config .setQueue) .setQueue h s)

/-- CLOSE_QUEUE (02 R37, 09 R152). -/
def execCloseQueue (h : CfgStep) (s : State) : Host.Outcome State Fault Refusal :=
  .next (routedRequest handConfig (takeQueueRequest .config .closeQueue) .closeQueue h s)

/-- PURGE_QUEUE (02 R39, R40, 09 R152). -/
def execPurgeQueue (h : CfgStep) (s : State) : Host.Outcome State Fault Refusal :=
  .next (routedRequest handConfig (takeQueueRequest .config .purgeQueue) .purgeQueue h s)

/-- SET_BUDGET (01 R14, R15, 09 R152). -/
def execSetBudget (h : CfgStep) (s : State) : Host.Outcome State Fault Refusal :=
  .next (routedRequest handConfig takeBudget .setBudget h s)

/-- SET_KEEP_ALIVE (09 R154). -/
def execSetKeepAlive (h : ReqStep) (s : State) : Host.Outcome State Fault Refusal :=
  .next (configRequest handConfig .setKeepAlive h s)

/-- RESET_POOL (09 R155). -/
def execResetPool (h : ReqStep) (s : State) : Host.Outcome State Fault Refusal :=
  .next (configRequest handConfig .resetPool h s)

end Sys2Proof.Machine
end

