-- ==== Sys2Proof/Machine/LeaseManager.lean ====
section
/-! DEFINITION. The lease manager: the time base, leases, Take, Read, Settle and Extend, expiry, the redelivery path,
and its part of session ends and of ResetPool (04 R66 to R87, 05 R88 to R102). -/

namespace Sys2Proof.Machine

/-! ### Lease ids (04 R69) -/

/-- The lease id after `n`: 255 is followed by 1. -/
def nextId (n : Nat) : Nat := if n < 255 then n + 1 else 1

/-- The first id from `c` on that is not in `used`, looking at `fuel` ids at most. -/
def freeIdFrom (used : List Nat) : Nat → Nat → Nat
  | 0, c => c
  | fuel + 1, c => if c ∈ used then freeIdFrom used fuel (nextId c) else c

/-- The id set aside for a Take: the counter's value, or else the first value after it that no lease carries. -/
def freeId (ls : List Lease) (counter : Nat) : Nat := freeIdFrom (ls.map (·.id)) 255 counter

/-- The lease of a list that carries an id. -/
def findLease (ls : List Lease) (id : Nat) : Option Lease := ls.find? (·.id = id)

/-- The list without the lease that carries an id, the others keeping their order (04 R68). -/
def dropLease (ls : List Lease) (id : Nat) : List Lease := ls.filter (·.id ≠ id)

/-- The list with the lease that carries the id of `l` replaced by it. -/
def putLease (ls : List Lease) (l : Lease) : List Lease := ls.map fun x => if x.id = l.id then l else x

/-- Replace the lease list of a port. -/
def setLeaseList (p : Port) (ls : List Lease) (s : State) : State :=
  s.setLeases { s.leases with lists := upd s.leases.lists p ls }

/-- The remaining time of a deadline (04 R67). -/
def remaining (deadline timeBase : Word) : Nat := (deadline - timeBase).toNat

/-! ### The ends of a lease (04 R78, 05 R88 to R93) -/

/-- Free a message: a release to its producer and a leased decrement to its queue (04 R78, 05 R91). -/
def freeMessage (q : QueueId) (m : Message) (s : State) : State :=
  sendQueue .lease (.leasedDecrement q) (sendPool .lease (.release m.producer m.chain) s)

/-- The disposition of a message that leaves its lease (05 R91 to R93). -/
inductive Disposition where
  | freed | requeued | deadLetter (cause : DeadCause)
  deriving DecidableEq, Repr

/-- The disposition codes (10 section 10.8). -/
def Disposition.code : Disposition → Byte
  | .freed => 1 | .requeued => 2 | .deadLetter _ => 3

/-- Steps 2 to 4 of the path for a message whose count has been raised: the purge mark, then the redelivery limit,
which a Discard passes by (05 R91 to R93). -/
def disposition (m : Message) (limit : Nat) (discarded : Bool) : Disposition :=
  if m.purged then .freed
  else if discarded then .deadLetter .discarded
  else if m.deliveries < limit then .requeued
  else .deadLetter .limit

/-- Step 1 of the path (05 R90). -/
def raised (m : Message) : Message := { m with deliveries := m.deliveries + 1 }

/-- Where the path leads a message that leaves a lease of queue `q`, by the lease manager's copy of the limit. -/
def pathOf (s : State) (q : QueueId) (m : Message) (discarded : Bool) : Disposition :=
  disposition (raised m) (sel s.leases.limits q) discarded

/-- The redelivery path (05 R88 to R93). -/
def redeliver (q : QueueId) (m : Message) (discarded : Bool) (s : State) : State :=
  match pathOf s q m discarded with
  | .freed => freeMessage q (raised m) s
  | .requeued => sendQueue .lease (.reinsertion q (raised m)) s
  | .deadLetter cause =>
    sendQueue .lease (.deadLetter q (raised m) cause)
      (s.setLeases { s.leases with outstanding := s.leases.outstanding ++ [false] })

/-! ### Session end (04 R84, R86) -/

/-- A Take of the port is held in the reset hold (04 R86). -/
def Leases.takeHeld (x : Leases) (p : Port) : Bool :=
  x.held.any fun m => match m with
    | .request a .take _ => a == p
    | _ => false

/-- The cleanup of a port: deferred behind a Take in progress or held, and otherwise every lease goes down the
redelivery path, oldest first, and the cleanup is reported. -/
def leaseCleanup (p : Port) (s : State) : State :=
  if (sel s.leases.takes p).isSome || s.leases.takeHeld p then
    s.setLeases { s.leases with endDeferred := upd s.leases.endDeferred p true }
  else
    reportCleanup p .lease <| (sel s.leases.lists p).foldl (fun s l => redeliver l.queue l.message false s) <|
      s.setLeases { s.leases with
        lists := upd s.leases.lists p [], endDeferred := upd s.leases.endDeferred p false }

/-- Run a deferred cleanup again, now that a Take of the port has ended. -/
def leaseDeferred (p : Port) (s : State) : State := if sel s.leases.endDeferred p then leaseCleanup p s else s

/-! ### Take (04 R70 to R73) -/

/-- A Take is checked, sets aside a lease id and asks for the head of its queue (04 R69, R70). A Take refused here ends,
so a session-end cleanup that waits behind it runs in the same happening (DESIGN CHOICE, assumption 36). -/
def judgeTake (p : Port) (payload : List Byte) (s : State) : State :=
  let x := s.leases
  if Config.leaseLimit ≤ (sel x.lists p).length then
    leaseDeferred p (reply p .leaseLimit (byte1 (sel x.lists p).length) s)
  else match parseQueue payload with
    | none => leaseDeferred p (reply p .range [] s)
    | some q =>
      sendQueue .lease (.headRemoval p q) (s.setLeases { x with
        takes := upd x.takes p
          (some { id := freeId (sel x.lists p) (sel x.counter p), queue := q, overtaken := false }) })

/-- The payload of an Ok Take (10 section 10.7.2). -/
def takeBytes (id remain : Nat) (completed : Bool) (q : QueueId) (m : Message) (data : List Byte) : List Byte :=
  byte1 id ++ byte2 remain ++ [bit completed] ++ descriptor q m ++ data

/-- A head removal that brought a message: the lease is created, or, for a Streamed message that the first chunk
covers, settled at once (04 R72, R73). -/
def createLease (p : Port) (t : TakeBusy) (m : Message) (period : Nat) (mode : Delivery) (s : State) : State :=
  let x := s.leases
  let n := min m.length Config.chunkLimit
  let data := fetchBytes m.chain s.pool.cells 0 n
  let y := { x with counter := upd x.counter p (nextId t.id), takes := upd x.takes p none }
  if mode = .streamed ∧ m.length ≤ Config.chunkLimit then
    freeMessage t.queue m (reply p .ok (takeBytes 0 0 true t.queue m data) (s.setLeases y))
  else
    reply p .ok (takeBytes t.id period false t.queue m data) (s.setLeases { y with
      lists := upd x.lists p (sel x.lists p ++
        [{ id := t.id, queue := t.queue, mode, message := m, deadline := x.timeBase + BitVec.ofNat 32 period,
           delivered := n }]) })

/-- The answer to a head removal meets the Take in progress: a refusal is passed on, an overtaken Take is answered
Empty and its message discarded, and otherwise a lease is created (04 R71, R72, R86). An answer that meets no Take is
consumed (DESIGN CHOICE, assumption 31). -/
def takeHeadAnswer (p : Port) (a : HeadAnswer) (s : State) : State :=
  match sel s.leases.takes p with
  | none => s
  | some t =>
    let free := s.setLeases { s.leases with takes := upd s.leases.takes p none }
    leaseDeferred p (match a with
      | .refused st => reply p st [] free
      | .message m period mode =>
        if t.overtaken then reply p .empty [] free else createLease p t m period mode s)

/-! ### Read, Settle, Extend -/

/-- A Read at the lease manager (04 R75, R76); the remaining time of a Read that completes is DEDUCED (assumption 27). -/
def judgeRead (p : Port) (payload : List Byte) (s : State) : State :=
  match parseRead payload with
  | none => reply p .range [] s
  | some (id, offset, count) =>
    match findLease (sel s.leases.lists p) id with
    | none => reply p .leaseUnknown [] s
    | some l =>
      if count = 0 ∨ Config.chunkLimit < count ∨ l.message.length < offset + count then reply p .range [] s
      else
        let delivered := max l.delivered (offset + count)
        let completed := l.mode = .streamed ∧ delivered = l.message.length
        let s1 := reply p .ok (byte2 delivered ++ byte2 (remaining l.deadline s.leases.timeBase) ++ [bit completed] ++
          fetchBytes l.message.chain s.pool.cells offset count) s
        if completed then
          freeMessage l.queue l.message (setLeaseList p (dropLease (sel s.leases.lists p) id) s1)
        else setLeaseList p (putLease (sel s.leases.lists p) { l with delivered }) s1

/-- A Settle at the lease manager (04 R77 to R79). -/
def judgeSettle (p : Port) (payload : List Byte) (s : State) : State :=
  match parseSettle payload with
  | none => reply p .range [] s
  | some (id, o) =>
    match findLease (sel s.leases.lists p) id with
    | none => reply p .leaseUnknown [] s
    | some l =>
      let s1 := setLeaseList p (dropLease (sel s.leases.lists p) id) s
      let path (discarded : Bool) : State :=
        reply p .ok (byte1 (raised l.message).deliveries ++ [(pathOf s l.queue l.message discarded).code])
          (redeliver l.queue l.message discarded s1)
      match o with
      | .accept =>
        reply p .ok (byte1 l.message.deliveries ++ [Disposition.freed.code]) (freeMessage l.queue l.message s1)
      | .giveBack => path false
      | .discard => path true

/-- An Extend at the lease manager (04 R80). The deadline is that of 04 R67 for every lease period, 1 ms included, where
04 R81 says otherwise of the next advance (DESIGN CHOICE, assumption 35). -/
def judgeExtend (p : Port) (payload : List Byte) (s : State) : State :=
  match parseExtend payload with
  | none => reply p .range [] s
  | some id =>
    match findLease (sel s.leases.lists p) id with
    | none => reply p .leaseUnknown [] s
    | some l =>
      let period := sel s.leases.periods l.queue
      reply p .ok (byte2 period) (setLeaseList p (putLease (sel s.leases.lists p)
        { l with deadline := s.leases.timeBase + BitVec.ofNat 32 period }) s)

/-- A request judged against the leases as they stand. -/
def judgeLease (x : LeaseMsg) (s : State) : State :=
  match x with
  | .request p .take payload => judgeTake p payload s
  | .request p .read payload => judgeRead p payload s
  | .request p .settle payload => judgeSettle p payload s
  | .request p .extend payload => judgeExtend p payload s
  | _ => s

/-- A request of a port is taken: held in the reset hold (04 R86), else judged. -/
def takeLeaseRequest (p : Port) (r : Req) (s : State) : State :=
  match s.links.toLease.sent (.port p) with
  | .request a c payload :: rest =>
    if a = p ∧ c = r then
      let s1 := restLease (.port p) rest s
      if s.leases.hold then s1.setLeases { s.leases with held := s.leases.held ++ [.request p r payload] }
      else judgeLease (.request p r payload) s1
    else s
  | _ => s

/-- A request the lease manager owns: its frame ends at the port controller, or the lease manager takes it. -/
def leaseRequest (hand : Port → Req → Frame → State → State) (r : Req) (h : ReqStep) (s : State) : State :=
  match h with
  | .frame p f => hand p r f s
  | .taken p => takeLeaseRequest p r s

/-! ### The time base and expiry (04 R66, 05 R94) -/

/-- One lease expires: LeaseExpired is posted and its message enters the path (05 R94). -/
def expireLease (p : Port) (s : State) (l : Lease) : State :=
  redeliver l.queue l.message false (postNote .lease p (.leaseExpired l.id l.queue) s)

/-- The leases of a port whose deadline the time base has reached expire, oldest first. -/
def expirePort (s : State) (p : Port) : State :=
  let due := fun l : Lease => l.deadline = s.leases.timeBase
  ((sel s.leases.lists p).filter due).foldl (expireLease p)
    (setLeaseList p ((sel s.leases.lists p).filter fun l => ¬due l) s)

/-- One advance of the time base, with the expiries that belong to its happening, Port 0 first (04 R66, 05 R94). -/
def advance (s : State) : State :=
  allPorts.foldl expirePort (s.setLeases { s.leases with timeBase := s.leases.timeBase + 1 })

/-- TIME_BASE_ADVANCE (04 R66), given as a command (DESIGN CHOICE, assumption 12); the time base counts from the release
of RESET on (10 R172; DEDUCED, assumption 29). -/
def execTimeBaseAdvance (s : State) : Host.Outcome State Fault Refusal := .next (if s.resetLow then s else advance s)

/-- LEASE_EXPIRY (05 R94): the advance that reaches the deadline of the lease `id` of the port
(DESIGN CHOICE, assumption 11). -/
def execLeaseExpiry (p : Port) (id : Nat) (s : State) : Host.Outcome State Fault Refusal :=
  .next (match findLease (sel s.leases.lists p) id with
    | some l => if l.deadline = s.leases.timeBase + 1 ∧ ¬s.resetLow then advance s else s
    | none => s)

/-! ### Messages to the lease manager -/

/-- HEAD_REMOVAL_ANSWER (04 R71 to R73, R86). -/
def execHeadRemovalAnswer (s : State) : Host.Outcome State Fault Refusal :=
  .next (match s.links.toLease.sent .queue with
    | .headAnswer p a :: rest => takeHeadAnswer p a (restLease .queue rest s)
    | _ => s)

/-- DEAD_LETTER_ANSWER (05 R96, R97, R100, R101): on a drop the cells are released, unless a ResetPool overtook the
request, and Dropped is posted to the producer. -/
def execDeadLetterAnswer (s : State) : Host.Outcome State Fault Refusal :=
  .next (match s.links.toLease.sent .queue with
    | .deadAnswer a :: rest =>
      let s1 := (restLease .queue rest s).setLeases { s.leases with outstanding := s.leases.outstanding.tail }
      match a with
      | .moved _ => s1
      | .cleared => s1
      | .dropped q cause m =>
        postNote .lease m.producer (.dropped q cause)
          (if s.leases.outstanding.head? = some true then s1 else sendPool .lease (.release m.producer m.chain) s1)
    | _ => s)

/-- Mark the lease's message where the request names it (04 R82). -/
def markLease (q : QueueId) (producer : Option Port) (l : Lease) : Lease :=
  if l.queue = q ∧ (producer = none ∨ producer = some l.message.producer) then
    { l with message := { l.message with purged := true } }
  else l

/-- PURGE_MARK_REQUEST (04 R82). -/
def execPurgeMarkRequest (s : State) : Host.Outcome State Fault Refusal :=
  .next (match s.links.toLease.sent .queue with
    | .purgeMark q producer :: rest =>
      allPorts.foldl (fun s p => setLeaseList p ((sel s.leases.lists p).map (markLease q producer)) s)
        (restLease .queue rest s)
    | _ => s)

/-- SETTINGS_NOTICE (05 R89). -/
def execSettingsNotice (s : State) : Host.Outcome State Fault Refusal :=
  .next (match s.links.toLease.sent .queue with
    | .settings q limit period :: rest =>
      (restLease .queue rest s).setLeases { s.leases with
        limits := upd s.leases.limits q limit, periods := upd s.leases.periods q period }
    | _ => s)

/-- LEASE_SESSION_END (04 R84, R86). -/
def execLeaseSessionEnd (p : Port) (s : State) : Host.Outcome State Fault Refusal :=
  .next (match s.links.toLease.sent (.port p) with
    | .sessionEnd a :: rest => if a = p then leaseCleanup p (restLease (.port p) rest s) else s
    | _ => s)

/-- LEASE_ATTACH (04 R69, 08 R134). -/
def execLeaseAttach (p : Port) (s : State) : Host.Outcome State Fault Refusal :=
  .next (match s.links.toLease.sent (.port p) with
    | .attach a :: rest =>
      if a = p then
        reportAttach p { block := .lease, charge := 0 } ((restLease (.port p) rest s).setLeases
          { s.leases with counter := upd s.leases.counter p 1 })
      else s
    | _ => s)

/-- LEASE_CLEARING_ORDER (04 R85, 05 R101). -/
def execLeaseClearingOrder (s : State) : Host.Outcome State Fault Refusal :=
  .next (match s.links.toLease.sent .pool with
    | .clearingOrder :: rest =>
      sendPool .lease .cleared <| sendQueue .lease .cancelled <| (restLease .pool rest s).setLeases { s.leases with
        lists := Vector.replicate 4 []
        takes := s.leases.takes.map fun t => t.map fun t => { t with overtaken := true }
        outstanding := s.leases.outstanding.map fun _ => true
        hold := true }
    | _ => s)

/-- Take the requests the reset hold held, in their order (04 R86); a Take among them that ends here lets a deferred
cleanup run. -/
def releaseHeldLease : List LeaseMsg → State → State
  | [], s => s
  | m :: rest, s => releaseHeldLease rest (judgeLease m (s.setLeases { s.leases with held := rest }))

/-- LEASE_RESET_COMPLETION (04 R86). -/
def execLeaseResetCompletion (s : State) : Host.Outcome State Fault Refusal :=
  .next (match s.links.toLease.sent .pool with
    | .completion :: rest =>
      releaseHeldLease s.leases.held ((restLease .pool rest s).setLeases { s.leases with hold := false })
    | _ => s)

end Sys2Proof.Machine
end

