-- ==== Sys2Proof/Machine/LeaseRequests.lean ====
section
/-! DEFINITION. The requests the lease manager owns: Take, Read, Settle, Extend (04 R70 to R80). -/

namespace Sys2Proof.Machine

/-- TAKE (04 R70). -/
def execTake (h : ReqStep) (s : State) : Host.Outcome State Fault Refusal := .next (leaseRequest handLease .take h s)

/-- READ (04 R75, R76). -/
def execRead (h : ReqStep) (s : State) : Host.Outcome State Fault Refusal := .next (leaseRequest handLease .read h s)

/-- SETTLE (04 R77 to R79). -/
def execSettle (h : ReqStep) (s : State) : Host.Outcome State Fault Refusal :=
  .next (leaseRequest handLease .settle h s)

/-- EXTEND (04 R80). -/
def execExtend (h : ReqStep) (s : State) : Host.Outcome State Fault Refusal :=
  .next (leaseRequest handLease .extend h s)

end Sys2Proof.Machine
end

