-- ==== Sys2Proof/Machine/NotificationUnit.lean ====
section
/-! DEFINITION. The notification unit: notification queues, signal slots, posts, Poll, Signal and ReadSignals
(06 R107 to R120, 07 R121 to R129). -/

namespace Sys2Proof.Machine

/-! ### Admission (06 R110 to R112) -/

/-- The kinds that merge with a standing entry (06 R111). -/
def Note.merges : Note → Bool
  | .arrival _ | .signalWaiting _ | .claimFree => true
  | _ => false

/-- Admission of a post, in the five steps of 06 R110. -/
def NoteQueue.admission (q : NoteQueue) (n : Note) : NoteQueue :=
  if ¬q.enabled then q
  else if n.merges ∧ .note n ∈ q.entries then q
  else if .overflow ∈ q.entries then q
  else if q.entries.length < Config.entryLimit then { q with entries := q.entries ++ [.note n] }
  else { q with entries := q.entries ++ [.overflow] }

/-- A post is judged against the notification queue of its port (06 R110). -/
def admitNote (p : Port) (n : Note) (s : State) : State :=
  s.setNotify { s.notify with queues := upd s.notify.queues p ((sel s.notify.queues p).admission n) }

/-! ### Signal slots (07 R121) -/

/-- The slot (sender, target). -/
def signalSlot (u : Notify) (sender target : Port) : Option Word := sel (sel u.inbound target) sender

/-- Replace the slot (sender, target). -/
def setSignal (sender target : Port) (w : Option Word) (s : State) : State :=
  s.setNotify { s.notify with
    inbound := upd s.notify.inbound target (upd (sel s.notify.inbound target) sender w) }

/-- The senders of the full inbound slots of a port, ascending, with their words. -/
def fullSlots (u : Notify) (target : Port) : List (Port × Word) :=
  allPorts.filterMap fun a => (signalSlot u a target).map fun w => (a, w)

/-- The inbound slots of a port are emptied. -/
def emptySlots (target : Port) (s : State) : State :=
  s.setNotify { s.notify with inbound := upd s.notify.inbound target (Vector.replicate 4 none) }

/-! ### Requests -/

/-- Poll (06 R114): up to 4 entries from the head, and the number left. -/
def judgePoll (p : Port) (payload : List Byte) (s : State) : State :=
  if payload ≠ [] then reply p .range [] s
  else
    let q := sel s.notify.queues p
    let out := q.entries.take Config.pollLimit
    let rest := q.entries.drop Config.pollLimit
    reply p .ok (byte1 rest.length ++ byte1 out.length ++ out.flatMap Entry.bytes)
      (s.setNotify { s.notify with queues := upd s.notify.queues p { q with entries := rest } })

/-- Signal (07 R122, R123). -/
def judgeSignal (p : Port) (payload : List Byte) (s : State) : State :=
  match parseSignal payload with
  | none => reply p .range [] s
  | some (t, w) =>
    if t = p then reply p .range [] s
    else if ¬(sel s.notify.queues t).enabled then reply p .peerAbsent [] s
    else if (signalSlot s.notify p t).isSome then reply p .slotBusy [] s
    else reply p .ok [] (admitNote t (.signalWaiting p) (setSignal p t (some w) s))

/-- ReadSignals (07 R124, R125). -/
def judgeReadSignals (p : Port) (payload : List Byte) (s : State) : State :=
  if payload ≠ [] then reply p .range [] s
  else
    let full := fullSlots s.notify p
    reply p .ok (byte1 full.length ++ full.flatMap fun x => byte1 x.1.val ++ byte4 x.2)
      (full.foldl (fun s x => admitNote x.1 (.signalRead p) s) (emptySlots p s))

/-- A request of a port, judged. -/
def judgeNotify (p : Port) (r : Req) (payload : List Byte) (s : State) : State :=
  match r with
  | .poll => judgePoll p payload s
  | .signal => judgeSignal p payload s
  | .readSignals => judgeReadSignals p payload s
  | _ => s

/-- A request of a port is taken; a ResetPool does not hold it (06 R119). -/
def takeNotifyRequest (p : Port) (r : Req) (s : State) : State :=
  match s.links.toNotify.sent (.port p) with
  | .request a c payload :: rest =>
    if a = p ∧ c = r then judgeNotify p r payload (restNotify (.port p) rest s) else s
  | _ => s

/-- A request the notification unit owns: its frame ends at the port controller, or the unit takes it. -/
def notifyRequest (hand : Port → Req → Frame → State → State) (r : Req) (h : ReqStep) (s : State) : State :=
  match h with
  | .frame p f => hand p r f s
  | .taken p => takeNotifyRequest p r s

/-! ### Commands -/

/-- POST (06 R110). -/
def execPost (src : Block) (s : State) : Host.Outcome State Fault Refusal :=
  .next (match blockSource src with
    | some so =>
      match s.links.toNotify.sent so with
      | .post p n :: rest => admitNote p n (restNotify so rest s)
      | _ => s
    | none => s)

/-- NOTIFY_ATTACH (06 R116). -/
def execNotifyAttach (p : Port) (s : State) : Host.Outcome State Fault Refusal :=
  .next (match s.links.toNotify.sent (.port p) with
    | .attach a :: rest =>
      if a = p then
        let s1 := (restNotify (.port p) rest s).setNotify { s.notify with
          queues := upd s.notify.queues p { sel s.notify.queues p with enabled := true } }
        s1.setLinks { s1.links with enabled := upd s1.links.enabled p true }
      else s
    | _ => s)

/-- NOTIFY_SESSION_END (06 R118, 07 R126): the queue is disabled and emptied, the inbound slots are emptied, SignalLost
goes to their senders in ascending order, and the cleanup is reported. -/
def execNotifySessionEnd (p : Port) (s : State) : Host.Outcome State Fault Refusal :=
  .next (match s.links.toNotify.sent (.port p) with
    | .sessionEnd a :: rest =>
      if a = p then
        let s1 := (restNotify (.port p) rest s).setNotify { s.notify with
          queues := upd s.notify.queues p { enabled := false, entries := [] } }
        reportCleanup p .notify
          ((fullSlots s.notify p).foldl (fun s x => admitNote x.1 (.signalLost p) s) (emptySlots p s1))
      else s
    | _ => s)

end Sys2Proof.Machine
end

