-- ==== Sys2Proof/Machine/NotifyRequests.lean ====
section
/-! DEFINITION. The requests the notification unit owns: Poll, Signal, ReadSignals (06 R114, 07 R122, R124). -/

namespace Sys2Proof.Machine

/-- POLL (06 R114). -/
def execPoll (h : ReqStep) (s : State) : Host.Outcome State Fault Refusal := .next (notifyRequest handNotify .poll h s)

/-- SIGNAL (07 R122). -/
def execSignal (h : ReqStep) (s : State) : Host.Outcome State Fault Refusal :=
  .next (notifyRequest handNotify .signal h s)

/-- READ_SIGNALS (07 R124). -/
def execReadSignals (h : ReqStep) (s : State) : Host.Outcome State Fault Refusal :=
  .next (notifyRequest handNotify .readSignals h s)

end Sys2Proof.Machine
end

