-- ==== Sys2Proof/Machine/PutRequests.lean ====
section
/-! DEFINITION. The requests the pool manager owns: Put, PutOpen, PutData, PutCommit, PutAbort (03 R50 to R59). -/

namespace Sys2Proof.Machine

/-- PUT (03 R58). -/
def execPut (h : ReqStep) (s : State) : Host.Outcome State Fault Refusal := .next (poolRequest handPool .put h s)

/-- PUT_OPEN (03 R50). -/
def execPutOpen (h : ReqStep) (s : State) : Host.Outcome State Fault Refusal :=
  .next (poolRequest handPool .putOpen h s)

/-- PUT_DATA (03 R53). -/
def execPutData (h : ReqStep) (s : State) : Host.Outcome State Fault Refusal :=
  .next (poolRequest handPool .putData h s)

/-- PUT_COMMIT (03 R55, R56). -/
def execPutCommit (h : ReqStep) (s : State) : Host.Outcome State Fault Refusal :=
  .next (poolRequest handPool .putCommit h s)

/-- PUT_ABORT (03 R57). -/
def execPutAbort (h : ReqStep) (s : State) : Host.Outcome State Fault Refusal :=
  .next (poolRequest handPool .putAbort h s)

end Sys2Proof.Machine
end

