-- ==== Sys2Proof/Machine/StatusRequests.lean ====
section
/-! DEFINITION. The status requests (11 R173 to R177). -/

namespace Sys2Proof.Machine

/-- QUEUE_STATUS (11 R176). -/
def execQueueStatus (h : ReqStep) (s : State) : Host.Outcome State Fault Refusal :=
  .next (match h with
    | .frame p f => handQueue p .queueStatus f s
    | .taken p => takeQueueRequest (.port p) .queueStatus s)

/-- PORT_STATUS (11 R174): Range at the requester's controller, or a query to each of the five places. -/
def execPortStatus (p : Port) (f : Frame) (s : State) : Host.Outcome State Fault Refusal :=
  .next (takeFrame p .portStatus f (fun s =>
    match parsePort f.payload with
    | none => respond p Req.portStatus.code f.tag .range [] s
    | some n =>
      let s1 := startExec p Req.portStatus.code f.tag (.status 5 []) s
      let s2 := s1.setLinks { s1.links with queries := upd s1.links.queries p (sel s1.links.queries p ++ [n]) }
      sendConfig (.port p) (.portQuery p n) <| sendPool (.port p) (.portQuery p n) <|
        sendLease (.port p) (.portQuery p n) <| sendNotify (.port p) (.portQuery p n) s2) s)

/-- POOL_STATUS (11 R173): the request is handed to the pool manager and to the lease manager, whatever its payload
(10 R164). -/
def execPoolStatus (p : Port) (f : Frame) (s : State) : Host.Outcome State Fault Refusal :=
  .next (takeFrame p .poolStatus f (fun s =>
    sendPool (.port p) (.poolQuery p f.payload) <| sendLease (.port p) (.poolQuery p f.payload) <|
      startExec p Req.poolStatus.code f.tag (.status 2 []) s) s)

/-- The pool manager's part about a port (11 R175). -/
def poolPart (x : Pool) (n : Port) : StatusPart :=
  .poolPort (sel x.charge n) (sel x.reserve n) (sel x.limit n) (sel x.slot n)

/-- The pool manager's part of a PoolStatus (11 R173). -/
def countsPart (x : Pool) : StatusPart :=
  .poolCounts x.freeList.length (sharedSize x.reserve) (sharedInUse x.charge x.reserve) x.resetting

/-- The lease manager's part about a port (11 R175). -/
def leasePart (x : Leases) (n : Port) : StatusPart :=
  .leases ((sel x.lists n).map fun l => (l.id, l.queue, remaining l.deadline x.timeBase))

/-- The part of the port controller of the named port (11 R175). -/
def controllerPart (c : PortCtl) : StatusPart :=
  .controller c.session c.epoch c.lastEnd c.setting (c.timer.getD 0)

/-- A taker of a PoolStatus answers with its part, or Range for a payload (10 R164, 11 R173). That both takers answer so,
and that the response waits for both, is a DESIGN CHOICE (assumption 33). -/
def poolStatusPart (payload : List Byte) (part : StatusPart) : StatusPart := if payload = [] then part else .misfit

/-- STATUS_QUERY (11 R173 to R175): a place takes the query of `requester` and answers with its part. -/
def execStatusQuery (requester : Port) (place : Place) (s : State) : Host.Outcome State Fault Refusal :=
  let p := requester
  .next (match place with
    | .controller =>
      match sel s.links.queries p with
      | n :: rest =>
        answer p (.part (controllerPart (s.port n)))
          (s.setLinks { s.links with queries := upd s.links.queries p rest })
      | [] => s
    | .config =>
      match s.links.toConfig.sent (.port p) with
      | .portQuery a n :: rest =>
        answer a (.part (.claim (s.config.holder == some n))) (restConfig (.port p) rest s)
      | _ => s
    | .pool =>
      match s.links.toPool.sent (.port p) with
      | .portQuery a n :: rest => answer a (.part (poolPart s.pool n)) (restPool (.port p) rest s)
      | .poolQuery a l :: rest => answer a (.part (poolStatusPart l (countsPart s.pool))) (restPool (.port p) rest s)
      | _ => s
    | .lease =>
      match s.links.toLease.sent (.port p) with
      | .portQuery a n :: rest => answer a (.part (leasePart s.leases n)) (restLease (.port p) rest s)
      | .poolQuery a l :: rest => answer a (.part (poolStatusPart l (.timeBase s.leases.timeBase))) (restLease (.port p) rest s)
      | _ => s
    | .notify =>
      match s.links.toNotify.sent (.port p) with
      | .portQuery a n :: rest =>
        answer a (.part (.notes (sel s.notify.queues n).entries.length)) (restNotify (.port p) rest s)
      | _ => s)

end Sys2Proof.Machine
end

