-- ==== Sys2Proof/Machine/Dispatch.lean ====
section
/-! DEFINITION. One arm per command, each one call of its meaning. -/

namespace Sys2Proof.Machine

def exec (i : Instr) (s : State) : Host.Outcome State Fault Refusal :=
  match i with
  | .attach p f => Sys2Proof.Machine.execAttach p f s
  | .detach p f => Sys2Proof.Machine.execDetach p f s
  | .nop p f => Sys2Proof.Machine.execNop p f s
  | .put h => Sys2Proof.Machine.execPut h s
  | .putOpen h => Sys2Proof.Machine.execPutOpen h s
  | .putData h => Sys2Proof.Machine.execPutData h s
  | .putCommit h => Sys2Proof.Machine.execPutCommit h s
  | .putAbort h => Sys2Proof.Machine.execPutAbort h s
  | .take h => Sys2Proof.Machine.execTake h s
  | .read h => Sys2Proof.Machine.execRead h s
  | .settle h => Sys2Proof.Machine.execSettle h s
  | .extend h => Sys2Proof.Machine.execExtend h s
  | .poll h => Sys2Proof.Machine.execPoll h s
  | .signal h => Sys2Proof.Machine.execSignal h s
  | .readSignals h => Sys2Proof.Machine.execReadSignals h s
  | .claim h => Sys2Proof.Machine.execClaim h s
  | .release h => Sys2Proof.Machine.execRelease h s
  | .defineQueue h => Sys2Proof.Machine.execDefineQueue h s
  | .setQueue h => Sys2Proof.Machine.execSetQueue h s
  | .closeQueue h => Sys2Proof.Machine.execCloseQueue h s
  | .purgeQueue h => Sys2Proof.Machine.execPurgeQueue h s
  | .setBudget h => Sys2Proof.Machine.execSetBudget h s
  | .setKeepAlive h => Sys2Proof.Machine.execSetKeepAlive h s
  | .resetPool h => Sys2Proof.Machine.execResetPool h s
  | .queueStatus h => Sys2Proof.Machine.execQueueStatus h s
  | .portStatus p f => Sys2Proof.Machine.execPortStatus p f s
  | .poolStatus p f => Sys2Proof.Machine.execPoolStatus p f s
  | .statusQuery requester place => Sys2Proof.Machine.execStatusQuery requester place s
  | .badFrame p bytes => Sys2Proof.Machine.execBadFrame p bytes s
  | .unknownRequest p code f => Sys2Proof.Machine.execUnknownRequest p code f s
  | .overrunFrame p bytes => Sys2Proof.Machine.execOverrunFrame p bytes s
  | .responseRead p h => Sys2Proof.Machine.execResponseRead p h s
  | .ownerAnswer p => Sys2Proof.Machine.execOwnerAnswer p s
  | .deviceReset => Sys2Proof.Machine.execDeviceReset s
  | .prstAssert p => Sys2Proof.Machine.execPrstAssert p s
  | .prstRelease p => Sys2Proof.Machine.execPrstRelease p s
  | .keepAliveTimeout p => Sys2Proof.Machine.execKeepAliveTimeout p s
  | .configSessionEnd p => Sys2Proof.Machine.execConfigSessionEnd p s
  | .poolSessionEnd p => Sys2Proof.Machine.execPoolSessionEnd p s
  | .queueSessionEnd p => Sys2Proof.Machine.execQueueSessionEnd p s
  | .leaseSessionEnd p => Sys2Proof.Machine.execLeaseSessionEnd p s
  | .notifySessionEnd p => Sys2Proof.Machine.execNotifySessionEnd p s
  | .cleanupReport p b => Sys2Proof.Machine.execCleanupReport p b s
  | .notifyAttach p => Sys2Proof.Machine.execNotifyAttach p s
  | .notifyEnabledReport p => Sys2Proof.Machine.execNotifyEnabledReport p s
  | .queueAttach p => Sys2Proof.Machine.execQueueAttach p s
  | .leaseAttach p => Sys2Proof.Machine.execLeaseAttach p s
  | .poolAttach p => Sys2Proof.Machine.execPoolAttach p s
  | .attachReport p b => Sys2Proof.Machine.execAttachReport p b s
  | .keepAliveSetting p => Sys2Proof.Machine.execKeepAliveSetting p s
  | .keepAliveTakenReport p => Sys2Proof.Machine.execKeepAliveTakenReport p s
  | .queueChecks => Sys2Proof.Machine.execQueueChecks s
  | .queueCheckRefusal => Sys2Proof.Machine.execQueueCheckRefusal s
  | .allocationRequest h => Sys2Proof.Machine.execAllocationRequest h s
  | .releaseRequest src => Sys2Proof.Machine.execReleaseRequest src s
  | .commit => Sys2Proof.Machine.execCommit s
  | .commitAnswer => Sys2Proof.Machine.execCommitAnswer s
  | .pendingDecrement => Sys2Proof.Machine.execPendingDecrement s
  | .headRemoval => Sys2Proof.Machine.execHeadRemoval s
  | .headRemovalAnswer => Sys2Proof.Machine.execHeadRemovalAnswer s
  | .reinsertion => Sys2Proof.Machine.execReinsertion s
  | .leasedDecrement => Sys2Proof.Machine.execLeasedDecrement s
  | .deadLetterRequest => Sys2Proof.Machine.execDeadLetterRequest s
  | .deadLetterAnswer => Sys2Proof.Machine.execDeadLetterAnswer s
  | .purgeMarkRequest => Sys2Proof.Machine.execPurgeMarkRequest s
  | .settingsNotice => Sys2Proof.Machine.execSettingsNotice s
  | .leaseExpiry p id => Sys2Proof.Machine.execLeaseExpiry p id s
  | .resetStart => Sys2Proof.Machine.execResetStart s
  | .leaseClearingOrder => Sys2Proof.Machine.execLeaseClearingOrder s
  | .queueClearingOrder => Sys2Proof.Machine.execQueueClearingOrder s
  | .cancellationNotice => Sys2Proof.Machine.execCancellationNotice s
  | .clearedReport src => Sys2Proof.Machine.execClearedReport src s
  | .queueResetCompletion => Sys2Proof.Machine.execQueueResetCompletion s
  | .leaseResetCompletion => Sys2Proof.Machine.execLeaseResetCompletion s
  | .completionReport => Sys2Proof.Machine.execCompletionReport s
  | .post src => Sys2Proof.Machine.execPost src s
  | .timeBaseAdvance => Sys2Proof.Machine.execTimeBaseAdvance s
  | .keepAliveTick p => Sys2Proof.Machine.execKeepAliveTick p s
  | .resetRelease => Sys2Proof.Machine.execResetRelease s
  | .requestFirstByte p h => Sys2Proof.Machine.execRequestFirstByte p h s

end Sys2Proof.Machine
end

