-- ==== Sys2Proof/Safety.lean ====
section
/-! DEFINITION. What a sound state of the part is: the bounds, orders and shapes that spec/ says hold in every state.
Each is kept by every step from every state that meets it, reachable or not. -/

namespace Sys2Proof.Machine

/-- Budgets (01 R5, R6): R not above L, L not above 4096, no charge above its limit, the reserves not above the pool,
and the shared in use not above S. -/
structure BudgetsSound (x : Pool) : Prop where
  reserves : portSum (sel x.reserve) ≤ 4096
  ordered  : ∀ p, sel x.reserve p ≤ sel x.limit p
  limits   : ∀ p, sel x.limit p ≤ 4096
  charges  : ∀ p, sel x.charge p ≤ sel x.limit p
  shared   : sharedInUse x.charge x.reserve ≤ sharedSize x.reserve

/-- A notification queue (06 R107, R110 to R112): disabled means empty; at most 32 entries, of which at most 31 are not
the Overflow marker; the marker stands only as the last entry; no merging entry stands twice. -/
structure NotesSound (q : NoteQueue) : Prop where
  disabled : q.enabled = false → q.entries = []
  bounded  : q.entries.length ≤ 32
  marker   : ∀ l r, q.entries = l ++ Entry.overflow :: r → r = []
  ordinary : (q.entries.filter (· != .overflow)).length ≤ 31
  merged   : ∀ n : Note, n.merges → q.entries.count (.note n) ≤ 1

/-- Every urgent message stands before every normal one (02 R28). -/
def ClassOrder (l : List Message) : Prop := l.Pairwise fun a b => a.cls = .normal → b.cls = .normal

/-- A lease id is 1 to 255 (04 R68, R69). -/
def LeaseIdOk (n : Nat) : Prop := 1 ≤ n ∧ n ≤ 255

/-- The leases of a port (04 R68, R69): at most 16, with distinct ids from 1 to 255; the counter is 1 to 255; while a
Take is in progress at most 15 stand and none carries the set-aside id. -/
structure LeasesSound (x : Leases) (p : Port) : Prop where
  atMost  : (sel x.lists p).length ≤ 16
  ids     : ((sel x.lists p).map (·.id)).Nodup
  inRange : ∀ l ∈ sel x.lists p, LeaseIdOk l.id
  counter : LeaseIdOk (sel x.counter p)
  aside   : ∀ t, sel x.takes p = some t →
    (sel x.lists p).length ≤ 15 ∧ LeaseIdOk t.id ∧ ∀ l ∈ sel x.lists p, l.id ≠ t.id

/-- A port controller (08 R130, R134, R135, R137, R139, R140, R143, 10 R161, R162): the keep-alive timer runs only in
Attached, never while an Attach is being carried out, and shows 1 ms up to the setting in use; an Attach is carried out
in Attached only; the port is Closing exactly while a cleanup report is outstanding, and a held Attach or a Detach waits
only then; the request engine is in Receiving exactly while a request frame is in reception. -/
structure PortSound (c : PortCtl) : Prop where
  timer     : ∀ n, c.timer = some n → c.session = .attached ∧ c.attaching = false ∧ 1 ≤ n ∧ n ≤ c.setting
  attaching : c.attaching = true → c.session = .attached
  closing   : c.session = .closing ↔ c.outstanding ≠ []
  waits     : ∀ e, c.engine = .executing e → e.work = .heldAttach ∨ e.work = .detach → c.session = .closing
  receiving : c.engine = .receiving ↔ ∃ code, c.link = .request code

/-- There is no signal slot from a port to itself (07 R121). -/
def SignalsSound (u : Notify) : Prop := ∀ p, signalSlot u p p = none

/-- A queue record (02 R21, R25, R28, R43, 06 R103): the settable fields in their ranges, a producer in the set of a
queue that is not Unused, a clear flag without a high watermark, the dropped count in its range, and urgent messages
before normal ones. -/
structure QueueSound (r : Queue) : Prop where
  depth     : 1 ≤ r.depth ∧ r.depth ≤ 1024 ∧ r.high ≤ r.depth
  low       : if r.high = 0 then r.low = 0 ∧ r.flag = false else r.low < r.high
  period    : 1 ≤ r.period ∧ r.period ≤ 65535
  limit     : 1 ≤ r.limit ∧ r.limit ≤ 15
  producers : r.state ≠ .unused → r.producers ≠ 0
  dropped   : r.dropped ≤ 65535
  order     : ClassOrder r.list

/-- The queues (02 R25, R26): every record is sound, and the dead-letter queue that a queue in use names is another queue
and names none itself. -/
structure QueuesSound (s : State) : Prop where
  records    : ∀ q, QueueSound (s.queue q)
  deadLetter : ∀ q d, (s.queue q).state ≠ .unused → (s.queue q).deadLetter = some d →
    d ≠ q ∧ (s.queue d).deadLetter = none

/-- The cell contents are in canonical form (assumption 6). -/
def CellsSound (x : Pool) : Prop := cellsWf x.cells = true

/-- The port whose controller a command reaches, if it reaches one: the frames, lines and ticks of that port, and the
messages its controller takes. DEVICE_RESET, which reaches all four, is not among them. -/
def controllerOf : Instr → Option Port
  | .attach p _ | .detach p _ | .nop p _ | .portStatus p _ | .poolStatus p _ => some p
  | .put (.frame p _) | .putOpen (.frame p _) | .putData (.frame p _) | .putCommit (.frame p _)
  | .putAbort (.frame p _) | .take (.frame p _) | .read (.frame p _) | .settle (.frame p _) | .extend (.frame p _)
  | .poll (.frame p _) | .signal (.frame p _) | .readSignals (.frame p _) | .claim (.frame p _)
  | .release (.frame p _) | .setKeepAlive (.frame p _) | .resetPool (.frame p _) | .queueStatus (.frame p _) => some p
  | .defineQueue (.frame p _) | .setQueue (.frame p _) | .closeQueue (.frame p _) | .purgeQueue (.frame p _)
  | .setBudget (.frame p _) => some p
  | .badFrame p _ | .unknownRequest p _ _ | .overrunFrame p _ | .responseRead p _ | .requestFirstByte p _ => some p
  | .ownerAnswer p | .cleanupReport p _ | .notifyEnabledReport p | .attachReport p _ | .keepAliveSetting p => some p
  | .prstAssert p | .prstRelease p | .keepAliveTimeout p | .keepAliveTick p => some p
  | _ => none

/-! ### The terms that statements about commands use -/

/-- The command that the end of a good frame of a request is. -/
def frameCommand (r : Req) (p : Port) (f : Frame) : Instr :=
  match r with
  | .attach => .attach p f
  | .detach => .detach p f
  | .nop => .nop p f
  | .put => .put (.frame p f)
  | .putOpen => .putOpen (.frame p f)
  | .putData => .putData (.frame p f)
  | .putCommit => .putCommit (.frame p f)
  | .putAbort => .putAbort (.frame p f)
  | .take => .take (.frame p f)
  | .read => .read (.frame p f)
  | .settle => .settle (.frame p f)
  | .extend => .extend (.frame p f)
  | .poll => .poll (.frame p f)
  | .signal => .signal (.frame p f)
  | .readSignals => .readSignals (.frame p f)
  | .claim => .claim (.frame p f)
  | .release => .release (.frame p f)
  | .defineQueue => .defineQueue (.frame p f)
  | .setQueue => .setQueue (.frame p f)
  | .closeQueue => .closeQueue (.frame p f)
  | .purgeQueue => .purgeQueue (.frame p f)
  | .setBudget => .setBudget (.frame p f)
  | .setKeepAlive => .setKeepAlive (.frame p f)
  | .resetPool => .resetPool (.frame p f)
  | .queueStatus => .queueStatus (.frame p f)
  | .portStatus => .portStatus p f
  | .poolStatus => .poolStatus p f

/-- The block that a request is handed to at the end of its frame (08 R132 step 5, 09 R152, 11 R176); none for the
requests that the port controller carries out, and for the two it sends queries for. -/
def ownerOf : Req → Option Block
  | .attach | .detach | .nop | .portStatus | .poolStatus => none
  | .put | .putOpen | .putData | .putCommit | .putAbort => some .pool
  | .take | .read | .settle | .extend => some .lease
  | .poll | .signal | .readSignals => some .notify
  | .claim | .release | .defineQueue | .setQueue | .closeQueue | .purgeQueue | .setBudget | .setKeepAlive
  | .resetPool => some .config
  | .queueStatus => some .queue

/-- The request of a port joins the messages on their way to its owner. -/
def handedTo (b : Block) (p : Port) (r : Req) (payload : List Byte) (s : State) : State :=
  match b with
  | .config => sendConfig (.port p) (.request p r payload) s
  | .pool => sendPool (.port p) (.request p r payload) s
  | .queue => sendQueue (.port p) (.request p r payload) s
  | .lease => sendLease (.port p) (.request p r payload) s
  | .notify => sendNotify (.port p) (.request p r payload) s

/-- A port controller with a response ready: OVERRUN as pending, which is cleared, and the ATN mirror (10 R165,
R166). -/
def PortCtl.ready (c : PortCtl) (atn : Bool) (x : Cached) : PortCtl :=
  { c with
    engine := .responseReady { status := x.status, tag := x.tag, code := x.code, overrun := c.overrun, atn,
                               epoch := x.epoch, payload := x.payload }
    overrun := false }

/-- A port controller with a newly built response, which carries the epoch as it stands and is cached (08 R131,
10 R166, R168). -/
def PortCtl.built (c : PortCtl) (atn : Bool) (code tag : Byte) (st : Status) (payload : List Byte) : PortCtl :=
  let x : Cached := { status := st, tag, code, epoch := c.epoch, payload }
  { c.ready atn x with cache := some x }

/-- The timer after a good frame: restarted in Attached, unless an Attach is being carried out (08 R140). -/
def PortCtl.restarted (c : PortCtl) : Option Nat :=
  if c.session = .attached ∧ c.attaching = false then timerFor c.setting else c.timer

/-- The session of a port has ended (08 R142), its controller being `c` but for what the session end sets. -/
def sessionEnded (p : Port) (cause : EndCause) (c : PortCtl) (s : State) : State :=
  { s with
    ports := upd s.ports p
      { c with session := .closing, lastEnd := cause, timer := none
               outstanding := [.config, .pool, .queue, .lease, .notify] }
    links := { s.links with
      toConfig := s.links.toConfig.push (.port p) (.sessionEnd p)
      toPool := s.links.toPool.push (.port p) (.sessionEnd p)
      toQueue := s.links.toQueue.push (.port p) (.sessionEnd p)
      toLease := s.links.toLease.push (.port p) (.sessionEnd p)
      toNotify := s.links.toNotify.push (.port p) (.sessionEnd p) } }

/-- An Attach is being carried out, its first step done (08 R134 step 1), the controller being `c` before it. -/
def attachBegun (p : Port) (tag : Byte) (c : PortCtl) (s : State) : State :=
  sendNotify (.port p) (.attach p) (s.setPort p
    { c with session := .attached, epoch := c.epoch + 1
             engine := .executing { code := 0x01, tag, discard := false, work := .attachNotify } })

end Sys2Proof.Machine
end

