-- ==== Sys2Proof/Certificates/Slice0/Obligations.lean ====
section
/-! DEFINITION. The statements for the provers: what each command does, said over the state before it; what every step
keeps; and what reset leaves. -/

open Sys2Proof Sys2Proof.Machine

/-! ### Port controllers -/

/-- 08 R132 step 5: the end of a good frame in Attached, not answered from the cache, hands every request that another
block owns to that block; the port enters Executing and its keep-alive timer restarts (08 R140). Nothing else
changes. The request codes are those of 10 section 10.8. A message sent joins the tail of its sender's messages to that
block, and the messages of no other sender or block change (01 R13); a message taken leaves only those behind it. An
update of the state replaces the entry it names and nothing else. -/
def Obligations.OwnerRequestHandedOver : Prop :=
  (∀ (s : State) (p : Port) (r : Req) (f : Frame) (b : Block),
    ownerOf r = some b → frameStands p r.code f s = true → (s.port p).session = .attached →
    retryMatch p r.code f s = none →
    exec (frameCommand r p f) s = .next (handedTo b p r f.payload (s.setPort p { s.port p with
      link := .none
      timer := timerFor (s.port p).setting
      engine := .executing { code := r.code, tag := f.tag, discard := false, work := .owner } }))) ∧
  (∀ (r : Req) (code : Byte), (r, code) ∈ [(Req.attach, (0x01 : Byte)), (.detach, 0x02), (.nop, 0x03), (.put, 0x04),
      (.putOpen, 0x05), (.putData, 0x06), (.putCommit, 0x07), (.putAbort, 0x08), (.take, 0x09), (.read, 0x0A),
      (.settle, 0x0B), (.extend, 0x0C), (.poll, 0x0D), (.signal, 0x0E), (.readSignals, 0x0F), (.claim, 0x10),
      (.release, 0x11), (.defineQueue, 0x12), (.setQueue, 0x13), (.closeQueue, 0x14), (.purgeQueue, 0x15),
      (.setBudget, 0x16), (.setKeepAlive, 0x17), (.resetPool, 0x18), (.queueStatus, 0x19), (.portStatus, 0x1A),
      (.poolStatus, 0x1B)] → r.code = code) ∧
  (∀ (s : State) (src : Source),
    (∀ x, sendPool src x s = { s with links := { s.links with toPool := s.links.toPool.push src x } }) ∧
    (∀ x, sendQueue src x s = { s with links := { s.links with toQueue := s.links.toQueue.push src x } }) ∧
    (∀ x, sendLease src x s = { s with links := { s.links with toLease := s.links.toLease.push src x } }) ∧
    (∀ x, sendNotify src x s = { s with links := { s.links with toNotify := s.links.toNotify.push src x } }) ∧
    (∀ x, sendConfig src x s = { s with links := { s.links with toConfig := s.links.toConfig.push src x } })) ∧
  (∀ (α : Type) (i : Inbox α) (src other : Source) (x : α),
    (i.push src x).sent src = i.sent src ++ [x] ∧ (other ≠ src → (i.push src x).sent other = i.sent other)) ∧
  (∀ (s : State) (src : Source),
    (∀ l, restPool src l s = { s with links := { s.links with toPool := s.links.toPool.put src l } }) ∧
    (∀ l, restQueue src l s = { s with links := { s.links with toQueue := s.links.toQueue.put src l } }) ∧
    (∀ l, restLease src l s = { s with links := { s.links with toLease := s.links.toLease.put src l } }) ∧
    (∀ l, restNotify src l s = { s with links := { s.links with toNotify := s.links.toNotify.put src l } }) ∧
    (∀ l, restConfig src l s = { s with links := { s.links with toConfig := s.links.toConfig.put src l } })) ∧
  (∀ (α : Type) (i : Inbox α) (src other : Source) (l : List α),
    (i.put src l).sent src = l ∧ (other ≠ src → (i.put src l).sent other = i.sent other)) ∧
  (∀ (α : Type) (n : Nat) (v : Vector α n) (k j : Fin n) (x : α),
    sel (upd v k x) k = x ∧ (j ≠ k → sel (upd v k x) j = sel v j)) ∧
  (∀ (s : State) (p : Port) (q : QueueId),
    (∀ c, s.setPort p c = { s with ports := upd s.ports p c }) ∧ s.port p = sel s.ports p ∧
    (∀ r, s.setQueue q r = { s with queues := upd s.queues q r }) ∧ s.queue q = sel s.queues q ∧
    (∀ x, s.setPool x = { s with pool := x }) ∧ (∀ x, s.setEngine x = { s with engine := x }) ∧
    (∀ x, s.setLeases x = { s with leases := x }) ∧ (∀ x, s.setNotify x = { s with notify := x }) ∧
    (∀ x, s.setConfig x = { s with config := x }) ∧ (∀ x, s.setLinks x = { s with links := x }))

/-- 08 R132 steps 2 and 4, 10 R169: a RETRY frame that matches the cache sends the cached response again in every
session state, with fresh flags; otherwise Down and Closing answer NoSession to every request but Attach, PoolStatus and
PortStatus. Nothing beyond the port controller changes. A frame is the one in reception, with a payload of at most 288
bytes (10 R162, R163), and it matches the cache when RETRY is set and code and tag are those of the cached response. -/
def Obligations.FrameAnsweredWithoutExecution : Prop :=
  (∀ (s : State) (p : Port) (r : Req) (f : Frame),
    frameStands p r.code f s = true →
    (∀ x, (s.port p).cache = some x → f.retry = true → x.code = r.code → x.tag = f.tag →
      exec (frameCommand r p f) s = .next (s.setPort p
        { (s.port p).ready (atn s.notify p) x with link := .none, timer := (s.port p).restarted })) ∧
    (retryMatch p r.code f s = none → (s.port p).session ≠ .attached → r ≠ .attach → r ≠ .poolStatus →
      r ≠ .portStatus →
      exec (frameCommand r p f) s = .next (s.setPort p
        { (s.port p).built (atn s.notify p) r.code f.tag .noSession [] with link := .none }))) ∧
  (∀ (s : State) (p : Port) (code : Byte) (f : Frame),
    (frameStands p code f s = true ↔
      (s.port p).link = .request code ∧ (s.port p).engine = .receiving ∧ f.payload.length ≤ 288) ∧
    ∀ x, retryMatch p code f s = some x ↔
      (s.port p).cache = some x ∧ f.retry = true ∧ x.code = code ∧ x.tag = f.tag)

/-- 08 R134 step 1, R135, R136: an Attach with a payload is answered Range; in Down it is carried out; in Attached it
causes a session end with cause Reattach and is held; in Closing it is held. -/
def Obligations.AttachFrameOutcomes : Prop :=
  ∀ (s : State) (p : Port) (f : Frame),
    frameStands p 0x01 f s = true → retryMatch p 0x01 f s = none →
    (f.payload ≠ [] → exec (.attach p f) s = .next (s.setPort p
      { (s.port p).built (atn s.notify p) 0x01 f.tag .range [] with
        link := .none, timer := (s.port p).restarted })) ∧
    (f.payload = [] → (s.port p).session = .down →
      exec (.attach p f) s = .next (attachBegun p f.tag { s.port p with link := .none } s)) ∧
    (f.payload = [] → (s.port p).session = .attached →
      exec (.attach p f) s = .next (sessionEnded p .reattach { s.port p with
        link := .none
        engine := .executing { code := 0x01, tag := f.tag, discard := false, work := .heldAttach } } s)) ∧
    (f.payload = [] → (s.port p).session = .closing →
      exec (.attach p f) s = .next (s.setPort p { s.port p with
        link := .none
        engine := .executing { code := 0x01, tag := f.tag, discard := false, work := .heldAttach } }))

/-- 08 R137, R138: in Attached, a Detach ends the session with cause Detach and stays in Executing; a Nop is answered
Ok; either is answered Range for a payload. -/
def Obligations.DetachAndNopOutcomes : Prop :=
  ∀ (s : State) (p : Port) (f : Frame), (s.port p).session = .attached →
    (frameStands p 0x02 f s = true → retryMatch p 0x02 f s = none →
      exec (.detach p f) s = .next (
        if f.payload = [] then
          sessionEnded p .detach { s.port p with
            link := .none
            engine := .executing { code := 0x02, tag := f.tag, discard := false, work := .detach } } s
        else s.setPort p { (s.port p).built (atn s.notify p) 0x02 f.tag .range [] with
          link := .none, timer := timerFor (s.port p).setting })) ∧
    (frameStands p 0x03 f s = true → retryMatch p 0x03 f s = none →
      exec (.nop p f) s = .next (s.setPort p
        { (s.port p).built (atn s.notify p) 0x03 f.tag (if f.payload = [] then .ok else .range) [] with
          link := .none, timer := timerFor (s.port p).setting }))

/-- 10 R163, R168: a bad frame begun in Idle or ResponseReady is answered BadFrame with the first reason found and the
code and tag received, leaves the cache and does not restart the timer. The reasons come in the order too few bytes for a
header, a flag other than RETRY, a length above 288, too few bytes for that length, and another CRC. 10 R164, 08 R132: a good frame with an undefined
code is answered from the cache, or UnknownRequest. -/
def Obligations.BadAndUnknownFrames : Prop :=
  (∀ (s : State) (p : Port) (code : Byte) (rest : List Byte) (reason : BadReason),
    (s.port p).link = .request code → (s.port p).engine = .receiving → judgeFrame (code :: rest) = .inl reason →
    exec (.badFrame p (code :: rest)) s = .next (s.setPort p { (s.port p).ready (atn s.notify p)
        { status := .badFrame, tag := rest.headD 0, code, epoch := (s.port p).epoch, payload := [reason.code] } with
      link := .none })) ∧
  (∀ (s : State) (p : Port) (code : Byte) (f : Frame),
    frameStands p code f s = true → knownCode code = false →
    exec (.unknownRequest p code f) s = .next (s.setPort p (match retryMatch p code f s with
      | some x =>
        { (s.port p).ready (atn s.notify p) x with link := .none, timer := (s.port p).restarted }
      | none => { (s.port p).built (atn s.notify p) code f.tag .unknownRequest [] with
          link := .none, timer := (s.port p).restarted }))) ∧
  (∀ bytes : List Byte, bytes.length < 5 → judgeFrame bytes = .inl .truncated) ∧
  (∀ (code tag flags hi lo : Byte) (rest : List Byte),
    let bytes := code :: tag :: flags :: hi :: lo :: rest
    let n := hi.toNat * 256 + lo.toNat
    let other := ∃ i, 1 ≤ i ∧ flags.getLsbD i = true
    (other → judgeFrame bytes = .inl .flags) ∧
    (¬other → 288 < n → judgeFrame bytes = .inl .length) ∧
    (¬other → n ≤ 288 → bytes.length < 5 + n + 2 → judgeFrame bytes = .inl .truncated) ∧
    (¬other → n ≤ 288 → 5 + n + 2 ≤ bytes.length →
      (rest.drop n).take 2 ≠ crcBytes ([code, tag, flags, hi, lo] ++ rest.take n) →
      judgeFrame bytes = .inl .crc)) ∧
  [BadReason.truncated, .flags, .length, .crc].map BadReason.code = [1, 2, 3, 4] ∧
  (∀ code : Byte, knownCode code = true ↔ 1 ≤ code.toNat ∧ code.toNat ≤ 27)

/-- 10 R162, R165: the first byte of a request transaction, judged by the state of the engine at that byte, puts Idle and
ResponseReady in Receiving and discards a ready response, leaving the cache; in Executing it begins an overrun frame. In
a transaction that the port ignores, under PRST or RESET, it changes nothing (10 R160, 08 R146; that a transaction stays
ignored to its end is the model's choice, assumption 13). The end of an overrun frame sets the pending OVERRUN flag, and
restarts the timer when the frame was good (08 R140). -/
def Obligations.FirstByteAndOverrunFrame : Prop :=
  (∀ (s : State) (p : Port) (code : Byte) (present : Bool), code ≠ 0 → (s.port p).link = .selected present →
    s.resetLow = false → (s.port p).prst = false →
    exec (.requestFirstByte p (.byte code)) s = .next (s.setPort p (match (s.port p).engine with
      | .executing _ => { s.port p with link := .overrun }
      | .idle | .receiving | .responseReady _ =>
        { s.port p with engine := .receiving, link := .request code }))) ∧
  (∀ (s : State) (p : Port) (code : Byte), s.resetLow = true ∨ (s.port p).prst = true ∨ (s.port p).link = .none →
    exec (.requestFirstByte p (.byte code)) s = .next s) ∧
  (∀ (s : State) (p : Port) (bytes : List Byte), (s.port p).link = .overrun →
    exec (.overrunFrame p bytes) s = .next (s.setPort p { s.port p with
      link := .none
      overrun := true
      timer := match judgeFrame bytes with
        | .inl _ => (s.port p).timer
        | .inr _ => (s.port p).restarted }))

/-- 10 R160, R167, 08 R146: the assertion of SEL decides the presence byte, 0xA5 exactly in ResponseReady, whatever the
engine does before the first byte; the first byte 0x00 makes the transaction a response read; the read shifts out the
ready response and filler, and completes, leaving Idle, when every byte of it has been shifted out; a read without a
response shifts out filler; a deassertion before a whole first byte ends the transaction alone. Nothing else of the port
changes. The field `shifted`, the record of what MISO carried, is the model's choice (assumption 13). Under SEL, MISO
carries the presence byte at place 0; past it the bytes of the response that is read and then filler 0xFF, and filler
alone in every other transaction. The RDY line is high exactly in ResponseReady (10 R161). The bytes of a response are the
7 of its header, its payload and its CRC (10 section 10.7.1, R170), with the status codes of 10 section 10.8 and fields
most significant byte first (10 R171). -/
def Obligations.ResponseReadOutcomes : Prop :=
  (∀ (s : State) (p : Port), (s.port p).link = .none →
    let t := s.setPort p (
      if s.resetLow = true ∨ (s.port p).prst = true then { s.port p with shifted := [0x00] }
      else { s.port p with
        link := .selected (rdy (s.port p)), shifted := [if rdy (s.port p) then 0xA5 else 0x00] })
    exec (.responseRead p .select) s = .next t ∧ exec (.requestFirstByte p .select) s = .next t) ∧
  (∀ (s : State) (p : Port) (present : Bool), (s.port p).link = .selected present →
    (s.resetLow = false → (s.port p).prst = false →
      exec (.responseRead p .firstByte) s = .next (s.setPort p { s.port p with link := .reading present })) ∧
    ∀ n, exec (.responseRead p (.deselect n)) s = .next (s.setPort p { s.port p with link := .none })) ∧
  (∀ (s : State) (p : Port) (n : Nat) (r : Response),
    (s.port p).link = .reading true → (s.port p).engine = .responseReady r →
    exec (.responseRead p (.deselect n)) s = .next (s.setPort p { s.port p with
      link := .none
      shifted := 0xA5 :: (r.bytes ++ List.replicate n 0xFF).take n
      engine := if n < r.bytes.length then .responseReady r else .idle })) ∧
  (∀ (s : State) (p : Port) (n : Nat), (s.port p).link = .reading false →
    exec (.responseRead p (.deselect n)) s = .next (s.setPort p { s.port p with
      link := .none, shifted := 0x00 :: List.replicate n 0xFF })) ∧
  (∀ r : Response,
    let flags : Byte := BitVec.ofNat 8 ((if r.overrun = true then 1 else 0) + (if r.atn = true then 2 else 0))
    let covered := [r.status.code, r.tag, r.code, flags, r.epoch, BitVec.ofNat 8 (r.payload.length / 256),
      BitVec.ofNat 8 r.payload.length] ++ r.payload
    r.bytes = covered ++ crcBytes covered) ∧
  (∀ bytes : List Byte,
    let bits := bytes.flatMap fun b => (List.range 8).map fun i => b.getLsbD (7 - i)
    let crc : BitVec 16 := bits.foldl (fun c b => if c.msb = b then c <<< 1 else (c <<< 1) ^^^ 0x1021) 0xFFFF
    crcBytes bytes = [crc.extractLsb' 8 8, crc.extractLsb' 0 8]) ∧
  (∀ (st : Status) (code : Byte), (st, code) ∈ [(Status.ok, (0x00 : Byte)), (.badFrame, 0x01), (.unknownRequest, 0x02),
      (.noSession, 0x03), (.busy, 0x10), (.notProducer, 0x11), (.notConsumer, 0x12), (.queueNotOpen, 0x13),
      (.queueFull, 0x14), (.noSpace, 0x15), (.overLimit, 0x16), (.empty, 0x17), (.leaseLimit, 0x20),
      (.leaseUnknown, 0x21), (.noAssembly, 0x22), (.sequence, 0x23), (.lengthMismatch, 0x24), (.range, 0x25),
      (.notClaimed, 0x30), (.claimHeld, 0x31), (.inUse, 0x32), (.slotBusy, 0x33), (.peerAbsent, 0x34)] →
    st.code = code) ∧
  (∀ (n : Nat) (w : Word), byte1 n = [BitVec.ofNat 8 n] ∧ byte2 n = [BitVec.ofNat 8 (n / 256), BitVec.ofNat 8 n] ∧
    byte4 w = [BitVec.ofNat 8 (w.toNat / 16777216), BitVec.ofNat 8 (w.toNat / 65536), BitVec.ofNat 8 (w.toNat / 256),
      BitVec.ofNat 8 w.toNat]) ∧
  (∀ c : PortCtl, rdy c = true ↔ ∃ r, c.engine = .responseReady r) ∧
  (∀ (c : PortCtl) (k : Nat),
    c.miso 0 = c.shifted.headD 0x00 ∧
    (∀ r, c.link = .reading true → c.engine = .responseReady r → c.miso (k + 1) = (r.bytes[k]?).getD 0xFF) ∧
    (c.link ≠ .reading true ∨ rdy c = false → c.miso (k + 1) = 0xFF))

/-- 08 R133, R145, 10 R166, 11 R173, R174: the oldest answer is taken; it becomes the response, which is cached, or
nothing where PRST has marked the request; a part of a status answer waits until the others have come, which for a
request that PRST has marked is the model's choice (assumption 32). The Ok payloads of PoolStatus and PortStatus carry
the parts in the order of 11 R173 and R175, in whatever order they came; the widths of the fields are DEDUCED
(assumption 26). Where a part is the Range of a misfitting payload, the response is Range (10 R164; that it waits for both
parts is the model's choice, assumption 33). A block's answer joins the tail of the answers of the port, and so do its
cleanup and Attach reports those of their kind (08 R134, R143). -/
def Obligations.OwnerAnswerBuildsResponse : Prop :=
  (∀ (s : State) (p : Port) (e : ExecReq) (x : Answer) (rest : List Answer),
    sel s.links.answers p = x :: rest → (s.port p).engine = .executing e →
    (∀ st payload, x = .final st payload →
      exec (.ownerAnswer p) s = .next ((s.setLinks { s.links with answers := upd s.links.answers p rest }).setPort p
        (if e.discard then { s.port p with engine := .idle }
         else (s.port p).built (atn s.notify p) e.code e.tag st payload))) ∧
    (∀ part needed parts, x = .part part → e.work = .status needed parts →
      exec (.ownerAnswer p) s = .next ((s.setLinks { s.links with answers := upd s.links.answers p rest }).setPort p
        (if parts.length + 1 < needed then
           { s.port p with engine := .executing { e with work := .status needed (parts ++ [part]) } }
         else if e.discard then { s.port p with engine := .idle }
         else if .misfit ∈ parts ++ [part] then (s.port p).built (atn s.notify p) e.code e.tag .range []
         else (s.port p).built (atn s.notify p) e.code e.tag .ok (reportBytes (parts ++ [part])))))) ∧
  (∀ (parts : List StatusPart) (free shared inUse : Nat) (resetting : Bool) (t : Word),
    parts.Perm [.poolCounts free shared inUse resetting, .timeBase t] →
    reportBytes parts =
      byte2 free ++ byte2 shared ++ byte2 inUse ++ byte4 t ++ [if resetting = true then 1 else 0]) ∧
  (∀ (parts : List StatusPart) (session : Session) (epoch : BitVec 8) (cause : EndCause)
      (setting left charge reserve limit notes : Nat) (slot : Slot) (leases : List (Nat × QueueId × Nat)) (claim : Bool),
    parts.Perm [.controller session epoch cause setting left, .poolPort charge reserve limit slot, .leases leases,
      .notes notes, .claim claim] →
    reportBytes parts =
      [match session with | .down => 0 | .attached => 1 | .closing => 2, epoch,
        match cause with | .none => 0 | .detach => 1 | .reattach => 2 | .timeout => 3 | .portReset => 4] ++
      byte2 setting ++ byte2 left ++ byte2 charge ++ byte2 reserve ++ byte2 limit ++
      (match slot with
        | .empty => [0, 0xFF, 0, 0, 0, 0]
        | .filling a => [1, BitVec.ofNat 8 a.queue.val] ++ byte2 a.length ++ byte2 a.fill) ++
      [BitVec.ofNat 8 leases.length] ++
      (leases.flatMap fun l => [BitVec.ofNat 8 l.1, BitVec.ofNat 8 l.2.1.val] ++ byte2 l.2.2) ++
      [BitVec.ofNat 8 notes, if claim = true then 1 else 0]) ∧
  (∀ (u : State) (p : Port) (st : Status) (payload : List Byte) (x : Answer),
    reply p st payload u = answer p (.final st payload) u ∧
    answer p x u = u.setLinks { u.links with answers := upd u.links.answers p (sel u.links.answers p ++ [x]) }) ∧
  (∀ (u : State) (p : Port) (b : Block) (x : AttachReport),
    reportCleanup p b u =
      u.setLinks { u.links with cleanups := upd u.links.cleanups p (sel u.links.cleanups p ++ [b]) } ∧
    reportAttach p x u =
      u.setLinks { u.links with attachReports := upd u.links.attachReports p (sel u.links.attachReports p ++ [x]) })

/-- 08 R144 to R146: PRST empties the cache, clears OVERRUN, drops what is in reception or ready, withdraws a held
Attach, marks a request in Executing for discarding, and ends the session in Attached, unless an Attach is being carried
out (08 R134 steps 1 and 2), when the end is deferred. Its release changes the line alone. That a withdrawn Attach leaves Idle is DEDUCED
(assumption 14). -/
def Obligations.PrstAssertAndRelease : Prop :=
  (∀ (s : State) (p : Port), (s.port p).prst = false →
    exec (.prstAssert p) s = .next (
      let c := s.port p
      let c' := { c with
        engine := match c.engine with
          | .executing e => if e.work = .heldAttach then .idle else .executing { e with discard := true }
          | _ => .idle
        cache := none, overrun := false, prst := true, link := .none }
      if c.session = .attached then
        if c.attaching then s.setPort p { c' with deferredReset := true } else sessionEnded p .portReset c' s
      else s.setPort p c')) ∧
  (∀ (s : State) (p : Port), (s.port p).prst = true →
    exec (.prstRelease p) s = .next (s.setPort p { s.port p with prst := false })) ∧
  (∀ c : PortCtl, c.attaching = true ↔ ∃ e, c.engine = .executing e ∧
    (e.work = .attachNotify ∨ ∃ left charge, e.work = .attachReports left charge))

/-- 08 R139, R140: a tick lowers a running timer by 1; the tick that brings it to 0, which is what KEEP_ALIVE_TIMEOUT
stands for (assumption 11), ends the session with cause Timeout; without a running timer nothing changes. A new setting
becomes the one in use, restarts or stops the timer in Attached, and is reported to the configuration unit. -/
def Obligations.KeepAliveTimerRules : Prop :=
  (∀ (s : State) (p : Port), (s.port p).timer = none → exec (.keepAliveTick p) s = .next s) ∧
  (∀ (s : State) (p : Port) (n : Nat), (s.port p).timer = some (n + 2) →
    exec (.keepAliveTick p) s = .next (s.setPort p { s.port p with timer := some (n + 1) })) ∧
  (∀ (s : State) (p : Port), PortSound (s.port p) → (s.port p).timer = some 1 →
    exec (.keepAliveTick p) s = .next (sessionEnded p .timeout (s.port p) s) ∧
    exec (.keepAliveTimeout p) s = .next (sessionEnded p .timeout (s.port p) s)) ∧
  (∀ (s : State) (p : Port) (x : NewSetting) (rest : List NewSetting), sel s.links.settings p = x :: rest →
    exec (.keepAliveSetting p) s = .next (
      sendConfig (.port p) (.settingTaken x.requester x.setting)
        ((s.setLinks { s.links with settings := upd s.links.settings p rest }).setPort p { s.port p with
          setting := x.setting
          timer := if (s.port p).session = .attached ∧ (s.port p).attaching = false then
              (if x.setting = 0 then none else some x.setting)
            else (s.port p).timer }))) ∧
  (∀ n : Nat, timerFor 0 = none ∧ timerFor (n + 1) = some (n + 1))

/-- 08 R143: the report of a block removes it from the outstanding reports; the last one makes the port Down in the same
happening, and then a held Attach is carried out, or the Ok of a Detach is built unless PRST has marked it. -/
def Obligations.CleanupReportReachesDown : Prop :=
  ∀ (s : State) (p : Port) (b : Block), PortSound (s.port p) → b ∈ sel s.links.cleanups p →
    exec (.cleanupReport p b) s = .next (
      let s1 := s.setLinks { s.links with cleanups := upd s.links.cleanups p ((sel s.links.cleanups p).erase b) }
      let c := { s.port p with outstanding := (s.port p).outstanding.erase b }
      let d := { c with session := .down }
      if c.session ≠ .closing ∨ c.outstanding ≠ [] then s1.setPort p c
      else match c.engine with
        | .executing { work := .heldAttach, tag, .. } => attachBegun p tag d s1
        | .executing { work := .detach, code, tag, discard := false } =>
          s1.setPort p (d.built (atn s.notify p) code tag .ok [])
        | .executing { work := .detach, discard := true, .. } => s1.setPort p { d with engine := .idle }
        | _ => s1.setPort p d)

/-- 08 R134 steps 2 and 3, R144: the notification unit's report sends the announcement to the lease manager, the queue
engine and the pool manager; their three reports are taken in any order, and the last builds the Attach response with the port, the epoch, the
charge reported and the last end cause, and starts the timer, or causes the session end that PRST deferred. -/
def Obligations.AttachReportsFinishAttach : Prop :=
  (∀ (s : State) (p : Port) (e : ExecReq), sel s.links.enabled p = true → (s.port p).engine = .executing e →
    e.work = .attachNotify →
    exec (.notifyEnabledReport p) s = .next (
      sendLease (.port p) (.attach p) <| sendQueue (.port p) (.attach p) <| sendPool (.port p) (.attach p) <|
        (s.setLinks { s.links with enabled := upd s.links.enabled p false }).setPort p { s.port p with
          engine := .executing { e with work := .attachReports [.lease, .queue, .pool] 0 } })) ∧
  (∀ (s : State) (p : Port) (e : ExecReq) (b : Block) (x : AttachReport)
      (before after : List AttachReport) (left : List Block) (charge : Nat),
    sel s.links.attachReports p = before ++ x :: after → (∀ y ∈ before, y.block ≠ b) → x.block = b → (s.port p).engine = .executing e →
    e.work = .attachReports left charge → PortSound (s.port p) →
    exec (.attachReport p b) s = .next (
      let s1 := s.setLinks { s.links with attachReports := upd s.links.attachReports p (before ++ after) }
      let c := s.port p
      let charge' := if b = .pool then x.charge else charge
      if left.erase b ≠ [] then
        s1.setPort p { c with engine := .executing { e with work := .attachReports (left.erase b) charge' } }
      else if c.deferredReset then sessionEnded p .portReset { c with engine := .idle, deferredReset := false } s1
      else s1.setPort p
        { c.built (atn s.notify p) e.code e.tag .ok
            ([BitVec.ofNat 8 p.val, c.epoch] ++ byte2 charge' ++ [c.lastEnd.code]) with
          timer := if c.setting = 0 then none else some c.setting }))

/-- 10 R172, 01 R20, 02 R47, 03 R65, 04 R87, 05 R102, 06 R120, 07 R129, 08 R147, 09 R159: RESET low gives every block
its reset values and leaves nothing in flight; its release changes the line alone. That the PRST levels and the waiting
commands stay, the order of the free list and the blank cells are the model's choice (assumptions 4, 6, 7, 24). -/
def Obligations.DeviceResetAndRelease : Prop :=
  (∀ (s : State) (p : Port), ∃ t, exec .deviceReset s = .next t ∧ t.pool = Pool.reset ∧
    (∀ q, t.queue q = Queue.reset) ∧ t.engine = Engine.reset ∧ t.leases = Leases.reset ∧ t.notify = Notify.reset ∧
    t.config = ConfigUnit.reset ∧ t.links = Links.empty ∧ t.resetLow = true ∧ t.pending = s.pending ∧
    t.port p = { PortCtl.reset with prst := (s.port p).prst }) ∧
  (∀ (s : State), exec .resetRelease s = .next { s with resetLow := false }) ∧
  (∀ (p : Port) (c : CellId), c ∈ Pool.reset.freeList ∧ Pool.reset.freeList.length = 4096 ∧
    sel Pool.reset.charge p = 0 ∧ sel Pool.reset.reserve p = 0 ∧ sel Pool.reset.limit p = 4096 ∧
    sel Pool.reset.slot p = .empty ∧ sel Pool.reset.opening p = none ∧ sel Pool.reset.standing p = none ∧
    sel Pool.reset.endDeferred p = false ∧ Pool.reset.resetting = false ∧ Pool.reset.queueCleared = false ∧
    Pool.reset.leaseCleared = false ∧ Pool.reset.pointer = 0 ∧ Pool.reset.held = [] ∧ Pool.reset.cells = []) ∧
  Queue.reset = { state := .unused, consumer := 0, producers := 0, depth := 1, high := 0, low := 0, period := 1
                  limit := 1, mode := .confirmed, producerEnd := .keep, deadLetter := none, list := [], leased := 0
                  pending := 0, flag := false, nextSeq := 0, dropped := 0 } ∧
  Engine.reset = { hold := false, held := [], gotOrder := false, gotNotice := false } ∧
  (∀ (p : Port) (q : QueueId), Leases.reset.timeBase = 0 ∧ sel Leases.reset.lists p = [] ∧
    sel Leases.reset.counter p = 1 ∧ sel Leases.reset.takes p = none ∧ Leases.reset.hold = false ∧
    Leases.reset.held = [] ∧ sel Leases.reset.endDeferred p = false ∧
    sel Leases.reset.limits q = 1 ∧ sel Leases.reset.periods q = 1 ∧ Leases.reset.outstanding = []) ∧
  (∀ p a : Port, sel Notify.reset.queues p = { enabled := false, entries := [] } ∧
    signalSlot Notify.reset a p = none) ∧
  (∀ p : Port, ConfigUnit.reset.holder = none ∧ sel ConfigUnit.reset.keepAlive p = 0 ∧
    ConfigUnit.reset.resetList = []) ∧
  PortCtl.reset = { session := .down, epoch := 0, lastEnd := .none, setting := 0, timer := none, deferredReset := false
                    outstanding := [], engine := .idle, cache := none, overrun := false, prst := false, link := .none
                    shifted := [] } ∧
  (∀ (src : Source) (p : Port), Links.empty.toPool.sent src = [] ∧ Links.empty.toQueue.sent src = [] ∧
    Links.empty.toLease.sent src = [] ∧ Links.empty.toNotify.sent src = [] ∧ Links.empty.toConfig.sent src = [] ∧
    sel Links.empty.answers p = [] ∧ sel Links.empty.cleanups p = [] ∧ sel Links.empty.enabled p = false ∧
    sel Links.empty.attachReports p = [] ∧ sel Links.empty.settings p = [] ∧ sel Links.empty.queries p = [])

/-! ### Pool manager -/

/-- 03 R50, R58, R63, 01 R16: the slot check of a PutOpen or Put. A Filling slot answers Busy and a payload out of range
or of another length than its fields answers Range, with nothing changed; otherwise the open mark is set and the queue
checks go to the queue engine with the cell count. In Resetting the request is held. What follows a refusal where a
session end waits is `poolDeferred` (`PoolSessionEndCleanup`). -/
def Obligations.PutSlotCheck : Prop :=
  (∀ (s : State) (p : Port) (r : Req) (payload : List Byte) (rest : List PoolMsg) (cmd : Instr)
      (args : Option PutArgs),
    (r = .putOpen ∧ cmd = .putOpen (.taken p) ∧ args = parsePutOpen payload) ∨
      (r = .put ∧ cmd = .put (.taken p) ∧ args = parsePut payload) →
    s.links.toPool.sent (.port p) = .request p r payload :: rest →
    exec cmd s = .next (
      let s1 := restPool (.port p) rest s
      if s.pool.resetting then s1.setPool { s.pool with held := s.pool.held ++ [.request p r payload] }
      else match sel s.pool.slot p, args with
        | .filling _, _ => poolDeferred p (reply p .busy [] s1)
        | .empty, none => poolDeferred p (reply p .range [] s1)
        | .empty, some a =>
          sendQueue .pool (.checks p a.queue ((a.length + 63) / 64))
            (s1.setPool { s.pool with opening := upd s.pool.opening p (some a) }))) ∧
  (∀ (q c o rq : Byte) (w : Word) (n : Nat) (data : List Byte), n < 65536 →
    let options := (if o.getLsbD 0 then byte4 w else []) ++ if o.getLsbD 1 then [rq] else []
    let bad := 31 < q.toNat ∨ 1 < c.toNat ∨ 3 < o.toNat ∨ (o.getLsbD 1 = true ∧ 31 < rq.toNat)
    let agrees (a : PutArgs) := a.queue.val = q.toNat ∧ a.cls = (if c = 0 then .normal else .urgent) ∧
      a.corr = (if o.getLsbD 0 then some w else none) ∧
      a.reply.map (·.val) = if o.getLsbD 1 then some rq.toNat else none
    (bad ∨ n = 0 ∨ 4096 < n → parsePutOpen ([q, c] ++ byte2 n ++ [o] ++ options) = none) ∧
    (¬bad → 1 ≤ n → n ≤ 4096 → ∃ a, parsePutOpen ([q, c] ++ byte2 n ++ [o] ++ options) = some a ∧ agrees a ∧
      a.length = n ∧ a.data = none) ∧
    (bad ∨ data = [] ∨ 256 < data.length → parsePut ([q, c, o] ++ options ++ data) = none) ∧
    (¬bad → 1 ≤ data.length → data.length ≤ 256 → ∃ a, parsePut ([q, c, o] ++ options ++ data) = some a ∧ agrees a ∧
      a.length = data.length ∧ a.data = some data)) ∧
  (∀ (payload : List Byte) (a : PutArgs),
    let options := (if a.corr = none then 0 else 4) + if a.reply = none then 0 else 1
    (parsePutOpen payload = some a → payload.length = 5 + options) ∧
    (parsePut payload = some a → payload.length = 3 + options + a.length))

/-- 03 R53, 01 R2, R16: a PutData whose offset is the fill and whose bytes fit stores them at message positions offset on,
raises the fill, and is answered Ok with it; every byte of the cell store outside those positions reads as before. The
refusals, in their order, change nothing: NoAssembly without an assembly, Sequence with the fill for another offset, Range
with the fill for no data or data past the declared length. A payload that does not fit the layout is answered Range
before the offset is read (assumption 15). In Resetting the request is held. Byte k of a message stands at place k mod 64
of chain cell k / 64, an unwritten byte reads as 0 (assumption 6), and bytes are fetched one after another. -/
def Obligations.PutDataJudged : Prop :=
  (∀ (s : State) (p : Port) (hi lo : Byte) (data : List Byte) (a : Assembly) (rest : List PoolMsg),
    s.links.toPool.sent (.port p) = .request p .putData (hi :: lo :: data) :: rest → s.pool.resetting = false →
    sel s.pool.slot p = .filling a → hi.toNat * 256 + lo.toNat = a.fill → data ≠ [] → data.length ≤ 256 →
    a.fill + data.length ≤ a.length → a.length ≤ 64 * a.chain.length → a.chain.Nodup → CellsSound s.pool →
    ∃ t, exec (.putData (.taken p)) s = .next t ∧
      t = reply p .ok (byte2 (a.fill + data.length)) ((restPool (.port p) rest s).setPool { s.pool with
        slot := upd s.pool.slot p (.filling { a with fill := a.fill + data.length })
        cells := t.pool.cells }) ∧
      fetchBytes a.chain t.pool.cells a.fill data.length = data ∧
      ∀ x, (∀ k, a.fill ≤ k → k < a.fill + data.length → byteAddr a.chain k ≠ some x) →
        readCell x t.pool.cells = readCell x s.pool.cells) ∧
  (∀ (s : State) (p : Port) (payload : List Byte) (rest : List PoolMsg),
    s.links.toPool.sent (.port p) = .request p .putData payload :: rest →
    (s.pool.resetting = true → exec (.putData (.taken p)) s = .next ((restPool (.port p) rest s).setPool
      { s.pool with held := s.pool.held ++ [.request p .putData payload] })) ∧
    (s.pool.resetting = false → sel s.pool.slot p = .empty →
      exec (.putData (.taken p)) s = .next (reply p .noAssembly [] (restPool (.port p) rest s))) ∧
    (∀ a, s.pool.resetting = false → sel s.pool.slot p = .filling a →
      payload.length < 2 ∨ 258 < payload.length →
      exec (.putData (.taken p)) s = .next (reply p .range (byte2 a.fill) (restPool (.port p) rest s))) ∧
    (∀ a hi lo data, s.pool.resetting = false → sel s.pool.slot p = .filling a → payload = hi :: lo :: data →
      data.length ≤ 256 → hi.toNat * 256 + lo.toNat ≠ a.fill →
      exec (.putData (.taken p)) s = .next (reply p .sequence (byte2 a.fill) (restPool (.port p) rest s))) ∧
    (∀ a hi lo data, s.pool.resetting = false → sel s.pool.slot p = .filling a → payload = hi :: lo :: data →
      data.length ≤ 256 → hi.toNat * 256 + lo.toNat = a.fill → data = [] ∨ a.length < a.fill + data.length →
      exec (.putData (.taken p)) s = .next (reply p .range (byte2 a.fill) (restPool (.port p) rest s)))) ∧
  (∀ (chain : List CellId) (k : Nat) (c : CellId),
    (chain[k / 64]? = some c → byteAddr chain k = some (c.val * 64 + k % 64)) ∧
    (chain.length ≤ k / 64 → byteAddr chain k = none)) ∧
  (∀ (chain : List CellId) (cells : List Host.Cell) (k n : Nat),
    fetchBytes chain cells k n =
      (List.range n).map fun i => ((byteAddr chain (k + i)).map fun a => readCell a cells).getD 0) ∧
  (∀ (a : Nat) (cells : List Host.Cell), readCell a cells = ((cells.find? fun c => c.1 = a).map (·.2)).getD 0)

/-- 03 R55 to R57, 01 R16: a PutCommit of a full assembly empties the slot and sends the message, with the chain and the
fields given, as a commit; a short one answers LengthMismatch with the fill and the length. A PutAbort releases the
chain, gives the pending count back and empties the slot. Without an assembly they answer NoAssembly and Ok with none
aborted; either answers Range for a payload; in Resetting either is held. -/
def Obligations.PutCommitAndAbort : Prop :=
  (∀ (s : State) (p : Port) (payload : List Byte) (rest : List PoolMsg),
    s.links.toPool.sent (.port p) = .request p .putCommit payload :: rest →
    exec (.putCommit (.taken p)) s = .next (
      let s1 := restPool (.port p) rest s
      if s.pool.resetting then s1.setPool { s.pool with held := s.pool.held ++ [.request p .putCommit payload] }
      else if payload ≠ [] then reply p .range [] s1
      else match sel s.pool.slot p with
        | .empty => reply p .noAssembly [] s1
        | .filling a =>
          if a.fill < a.length then reply p .lengthMismatch (byte2 a.fill ++ byte2 a.length) s1
          else sendQueue .pool (.commit a.queue
              { producer := p, cls := a.cls, length := a.length, corr := a.corr, reply := a.reply, chain := a.chain
                sequence := 0, deliveries := 0, purged := false, origin := none })
            (s1.setPool { s.pool with slot := upd s.pool.slot p .empty }))) ∧
  (∀ (s : State) (p : Port) (payload : List Byte) (rest : List PoolMsg),
    s.links.toPool.sent (.port p) = .request p .putAbort payload :: rest →
    exec (.putAbort (.taken p)) s = .next (
      let s1 := restPool (.port p) rest s
      if s.pool.resetting then s1.setPool { s.pool with held := s.pool.held ++ [.request p .putAbort payload] }
      else if payload ≠ [] then reply p .range [] s1
      else match sel s.pool.slot p with
        | .empty => reply p .ok [0, 0xFF, 0, 0] s1
        | .filling a =>
          reply p .ok ([1, BitVec.ofNat 8 a.queue.val] ++ byte2 a.fill) <|
            sendQueue .pool (.pendingDecrement a.queue) (s1.setPool { s.pool with
              freeList := s.pool.freeList ++ a.chain
              charge := upd s.pool.charge p (sel s.pool.charge p - a.chain.length)
              slot := upd s.pool.slot p .empty })))

/-- 03 R51, R56, 01 R11: what the queue engine, and for releases the lease manager, send the pool manager. A refusal of
queue checks clears the open mark and answers its status; the answer to a commit answers Ok with the queue and the
sequence; a release returns the chain to the tail of the free list and lowers the producer's charge, in either pool
state. That a cleanup which waits behind a refused request is reported with a refusal taken in Resetting too is the
model's choice (assumption 34). -/
def Obligations.PoolTakesAnswersAndReleases : Prop :=
  (∀ (s : State) (p : Port) (st : Status) (rest : List PoolMsg),
    s.links.toPool.sent .queue = .checkRefusal p st :: rest →
    exec .queueCheckRefusal s = .next (poolDeferred p <| reply p st [] <|
      (restPool .queue rest s).setPool { s.pool with opening := upd s.pool.opening p none })) ∧
  (∀ (s : State) (p : Port) (q : QueueId) (n : BitVec 16) (rest : List PoolMsg),
    s.links.toPool.sent .queue = .commitAnswer p q n :: rest →
    exec .commitAnswer s = .next
      (reply p .ok (BitVec.ofNat 8 q.val :: byte2 n.toNat) (restPool .queue rest s))) ∧
  (∀ (s : State) (b : Block) (src : Source) (p : Port) (chain : List CellId) (rest : List PoolMsg),
    (b = .queue ∧ src = .queue) ∨ (b = .lease ∧ src = .lease) →
    s.links.toPool.sent src = .release p chain :: rest →
    exec (.releaseRequest b) s = .next ((restPool src rest s).setPool { s.pool with
      freeList := s.pool.freeList ++ chain
      charge := upd s.pool.charge p (sel s.pool.charge p - chain.length) }))

/-- 01 R8, R9, R16: an allocation request comes to stand (a step of its own by assumption 8); in Normal the arbiter
takes the standing request of the pointer port or of the first port after it that has one. It is judged by 01 R7:
OverLimit, NoSpace or granted; the pointer moves past its port and the open mark is cleared. A refusal gives the pending count back and answers the cells
asked for and the charge; a grant of a PutOpen fills the slot and answers; a grant of a Put stores its bytes and commits
(03 R51, R52, R59). Stored bytes are read back, and no other byte of the cell store changes (01 R2). -/
def Obligations.AllocationArbitrated : Prop :=
  (∀ (s : State) (p : Port) (a : AllocReq) (rest : List PoolMsg),
    s.links.toPool.sent .queue = .alloc p a :: rest →
    exec (.allocationRequest .arrives) s = .next
      ((restPool .queue rest s).setPool { s.pool with standing := upd s.pool.standing p (some a) })) ∧
  (∀ (s : State), s.pool.resetting = true → exec (.allocationRequest .taken) s = .next s) ∧
  (∀ (s : State) (p d : Port) (a : AllocReq) (args : PutArgs),
    s.pool.resetting = false → p = s.pool.pointer + d → sel s.pool.standing p = some a →
    (∀ e, e < d → sel s.pool.standing (s.pool.pointer + e) = none) → sel s.pool.opening p = some args →
    exec (.allocationRequest .taken) s = .next (
      let x := { s.pool with
        standing := upd s.pool.standing p none, pointer := p + 1, opening := upd s.pool.opening p none }
      let charge := upd s.pool.charge p (sel s.pool.charge p + a.cells)
      let chain := s.pool.freeList.take a.cells
      let refused (st : Status) :=
        poolDeferred p <| reply p st (byte1 a.cells ++ byte2 (sel s.pool.charge p)) <|
          sendQueue .pool (.pendingDecrement a.queue) (s.setPool x)
      if sel s.pool.limit p < sel charge p then refused .overLimit
      else if 4096 - portSum (sel s.pool.reserve) < portSum (fun k => sel charge k - sel s.pool.reserve k) then
        refused .noSpace
      else match args.data with
        | none =>
          poolDeferred p <| reply p .ok (byte1 a.cells ++ byte2 (sel charge p)) <| s.setPool { x with
            freeList := s.pool.freeList.drop a.cells
            charge := charge
            slot := upd s.pool.slot p (.filling
              { queue := args.queue, length := args.length, cls := args.cls, corr := args.corr, reply := args.reply
                fill := 0, chain := chain }) }
        | some data =>
          poolDeferred p <| sendQueue .pool (.commit args.queue
              { producer := p, cls := args.cls, length := args.length, corr := args.corr, reply := args.reply
                chain := chain, sequence := 0, deliveries := 0, purged := false, origin := none }) <|
            s.setPool { x with
              freeList := s.pool.freeList.drop a.cells
              charge := charge
              cells := storeBytes chain 0 data s.pool.cells })) ∧
  (∀ (chain : List CellId) (data : List Byte) (cells : List Host.Cell), cellsWf cells = true → chain.Nodup →
    data.length ≤ 64 * chain.length →
    cellsWf (storeBytes chain 0 data cells) = true ∧
    fetchBytes chain (storeBytes chain 0 data cells) 0 data.length = data ∧
    ∀ x, (∀ k, k < data.length → byteAddr chain k ≠ some x) →
      readCell x (storeBytes chain 0 data cells) = readCell x cells)

/-- 03 R60, R61, 01 R19: the pool manager's part of a session end. Behind an open mark or a held PutOpen or Put it is
deferred until that request has ended; an Empty slot is reported at once; a Filling one is released, its pending count
given back, and reported, but in Resetting left to the return-all step. A deferred part runs when `poolDeferred` is
reached; that a refusal of queue checks in Resetting is such an end is the model's choice (assumption 34). -/
def Obligations.PoolSessionEndCleanup : Prop :=
  ∀ (s : State) (p : Port) (rest : List PoolMsg), s.links.toPool.sent (.port p) = .sessionEnd p :: rest →
    let s1 := restPool (.port p) rest s
    let underWay := sel s.pool.opening p ≠ none ∨
      ∃ payload, .request p .put payload ∈ s.pool.held ∨ .request p .putOpen payload ∈ s.pool.held
    (underWay → exec (.poolSessionEnd p) s = .next
      (s1.setPool { s.pool with endDeferred := upd s.pool.endDeferred p true })) ∧
    (¬underWay → sel s.pool.slot p = .empty → exec (.poolSessionEnd p) s = .next
      (reportCleanup p .pool (s1.setPool { s.pool with endDeferred := upd s.pool.endDeferred p false }))) ∧
    (∀ a, ¬underWay → sel s.pool.slot p = .filling a → exec (.poolSessionEnd p) s = .next (
      if s.pool.resetting then s1.setPool { s.pool with endDeferred := upd s.pool.endDeferred p true }
      else reportCleanup p .pool <| sendQueue .pool (.pendingDecrement a.queue) <| s1.setPool { s.pool with
        freeList := s.pool.freeList ++ a.chain
        charge := upd s.pool.charge p (sel s.pool.charge p - a.chain.length)
        slot := upd s.pool.slot p .empty
        endDeferred := upd s.pool.endDeferred p false })) ∧
    exec (.poolSessionEnd p) s = .next (poolCleanup p s1) ∧
    ∀ u : State, poolDeferred p u = if sel u.pool.endDeferred p then poolCleanup p u else u

/-- 01 R14, R15, R16: a SetBudget past the claim check answers Range for arguments out of range, InUse where the
reserves would exceed the pool, the shared in use the shared region, or the charge the limit, and otherwise replaces
reserve and limit together. In Resetting it is held. A payload of another length than 5 bytes is out of range (10 R164;
its place before the other checks is DEDUCED, assumption 28). -/
def Obligations.SetBudgetJudged : Prop :=
  ∀ (s : State) (p : Port) (payload : List Byte) (rest : List PoolMsg),
    s.links.toPool.sent .config = .setBudget p payload :: rest →
    let s1 := restPool .config rest s
    (s.pool.resetting = true → exec (.setBudget .applied) s = .next
      (s1.setPool { s.pool with held := s.pool.held ++ [.setBudget p payload] })) ∧
    (s.pool.resetting = false → parseBudget payload = none →
      exec (.setBudget .applied) s = .next (reply p .range [] s1)) ∧
    (∀ n r l, s.pool.resetting = false → parseBudget payload = some (n, r, l) →
      exec (.setBudget .applied) s = .next (
        let reserve := upd s.pool.reserve n r
        if 4096 < portSum (sel reserve) ∨
            4096 - portSum (sel reserve) < portSum (fun k => sel s.pool.charge k - sel reserve k) ∨
            l < sel s.pool.charge n then
          reply p .inUse [] s1
        else reply p .ok [] (s1.setPool { s.pool with reserve := reserve, limit := upd s.pool.limit n l }))) ∧
    (∀ (b : Byte) (r l : Nat), r < 65536 → l < 65536 →
      (3 < b.toNat ∨ 4096 < r ∨ 4096 < l ∨ l < r → parseBudget ([b] ++ byte2 r ++ byte2 l) = none) ∧
      ∀ n : Port, n.val = b.toNat → r ≤ l → l ≤ 4096 → parseBudget ([b] ++ byte2 r ++ byte2 l) = some (n, r, l)) ∧
    (payload.length ≠ 5 → parseBudget payload = none) ∧
    ∀ f : Port → Nat, portSum f = f 0 + f 1 + f 2 + f 3

/-- 01 R16, R17, R19: a ResetPool starts the reset and sends the clearing orders, or is held in Resetting. The first
cleared report is noted; the second brings the return-all step: every slot Empty, every charge 0, every cell free, Normal
again, completion sent to the configuration unit, the queue engine and the lease manager; then what was deferred runs,
held allocation requests go back to the queue engine in round-robin order, and held requests are judged in their order as
in Normal, up to a held ResetPool, which starts the next operation (01 R18, R19). The order within the happening, and
that the cells returned join behind those already free, are the model's choice (assumptions 7, 9, 10). -/
def Obligations.PoolResetStartAndReturnAll : Prop :=
  (∀ (s : State) (p : Port) (rest : List PoolMsg), s.links.toPool.sent .config = .resetPool p :: rest →
    exec .resetStart s = .next (
      let s1 := restPool .config rest s
      if s.pool.resetting then s1.setPool { s.pool with held := s.pool.held ++ [.resetPool p] }
      else sendLease .pool .clearingOrder <| sendQueue .pool .clearingOrder <| s1.setPool
        { s.pool with resetting := true, queueCleared := false, leaseCleared := false })) ∧
  (∀ (s : State) (b : Block) (src : Source) (rest : List PoolMsg),
    (b = .queue ∧ src = .queue) ∨ (b = .lease ∧ src = .lease) → s.links.toPool.sent src = .cleared :: rest →
    exec (.clearedReport b) s = .next (
      let s1 := restPool src rest s
      let x := { s.pool with
        queueCleared := s.pool.queueCleared || b == .queue, leaseCleared := s.pool.leaseCleared || b == .lease }
      if x.queueCleared && x.leaseCleared then
        let s2 := sendConfig .pool .completion <| sendLease .pool .completion <| sendQueue .pool .completion <|
          s1.setPool x.emptied
        let s3 := allPorts.foldl (fun s p => poolDeferred p s) s2
        let s4 := (arbiterOrder x.pointer).foldl sendBack s3
        releaseHeld s4.pool.held s4
      else s1.setPool x)) ∧
  (∀ x : Pool, x.emptied = { x with
      freeList := x.emptied.freeList
      charge := Vector.replicate 4 0
      slot := Vector.replicate 4 .empty
      resetting := false, queueCleared := false, leaseCleared := false } ∧
    x.freeList <+: x.emptied.freeList ∧ (∀ c : CellId, c ∈ x.emptied.freeList) ∧
    (x.freeList.Nodup → x.emptied.freeList.Nodup ∧ x.emptied.freeList.length = 4096)) ∧
  allPorts = [0, 1, 2, 3] ∧
  (∀ (p : Port), arbiterOrder p = [p, p + 1, p + 2, p + 3]) ∧
  (∀ (u : State) (p : Port), (sel u.pool.standing p = none → sendBack u p = u) ∧
    ∀ a, sel u.pool.standing p = some a → sendBack u p = sendQueue .pool (.checks p a.queue a.cells)
      (u.setPool { u.pool with standing := upd u.pool.standing p none })) ∧
  (∀ (u : State) (more : List PoolMsg) (p : Port) (r : Req) (payload : List Byte),
    let v := u.setPool { u.pool with held := more }
    releaseHeld [] u = u ∧
    releaseHeld (.request p r payload :: more) u = releaseHeld more (judgePort p r payload v) ∧
    releaseHeld (.setBudget p payload :: more) u = releaseHeld more (judgeBudget p payload v) ∧
    releaseHeld (.resetPool p :: more) u = (sendLease .pool .clearingOrder <| sendQueue .pool .clearingOrder <|
      u.setPool { u.pool with held := more, resetting := true, queueCleared := false, leaseCleared := false })) ∧
  (∀ (u : State) (p : Port) (payload : List Byte), sel u.pool.slot p = .empty →
    judgePort p .putData payload u = reply p .noAssembly [] u ∧
    judgePort p .putCommit [] u = reply p .noAssembly [] u ∧
    judgePort p .putAbort [] u = reply p .ok [0, 0xFF, 0, 0] u) ∧
  (∀ (u : State) (p : Port) (payload : List Byte) (l : List PoolMsg), u.pool.resetting = false →
    (∀ r c, (r, c) ∈ [(Req.put, Instr.put (.taken p)), (.putOpen, .putOpen (.taken p)), (.putData, .putData (.taken p)),
        (.putCommit, .putCommit (.taken p)), (.putAbort, .putAbort (.taken p))] →
      u.links.toPool.sent (.port p) = .request p r payload :: l →
      exec c u = .next (judgePort p r payload (restPool (.port p) l u))) ∧
    (u.links.toPool.sent .config = .setBudget p payload :: l →
      exec (.setBudget .applied) u = .next (judgeBudget p payload (restPool .config l u))))

/-! ### Queue engine -/

/-- 06 R103: an evaluation of the high flag of a queue with H and W. The posts go to each port of the producer set
(06 R104), lowest port first (assumption 19). -/
def Obligations.FlagEvaluation : Prop :=
  ∀ (s : State) (q : QueueId),
    let r := s.queue q
    let occupancy := r.list.length + r.leased + r.pending
    let producers := [0, 1, 2, 3].filter fun k : Port => r.producers.getLsbD k.val
    (r.high = 0 → evalFlag q s = s.setQueue q { r with flag := false }) ∧
    (0 < r.high → r.flag = false → r.high ≤ occupancy →
      evalFlag q s = postAll .queue producers (.queueHigh q) (s.setQueue q { r with flag := true })) ∧
    (0 < r.high → r.flag = true → occupancy ≤ r.low →
      evalFlag q s = postAll .queue producers (.queueSpace q) (s.setQueue q { r with flag := false })) ∧
    (0 < r.high → r.flag = false → occupancy < r.high → evalFlag q s = s) ∧
    (0 < r.high → r.flag = true → r.low < occupancy → evalFlag q s = s)

/-- 02 R32, R34, R38, R46: a pending decrement and a leased decrement lower their count; then the high flag is
evaluated, and a Draining queue whose occupancy is 0 becomes Unused, its flag clear, with QueueClosed to the consumer and
the other producers (the consumer first: assumption 19). In the reset hold a leased decrement has no effect. -/
def Obligations.DecrementsSettleTheQueue : Prop :=
  (∀ (s : State) (q : QueueId) (rest : List QueueMsg),
    s.links.toQueue.sent .pool = .pendingDecrement q :: rest →
    exec .pendingDecrement s = .next (completeDrain q (evalFlag q
      ((restQueue .pool rest s).setQueue q { s.queue q with pending := (s.queue q).pending - 1 })))) ∧
  (∀ (s : State) (q : QueueId) (rest : List QueueMsg),
    s.links.toQueue.sent .lease = .leasedDecrement q :: rest →
    exec .leasedDecrement s = .next (
      if s.engine.hold then restQueue .lease rest s
      else completeDrain q (evalFlag q
        ((restQueue .lease rest s).setQueue q { s.queue q with leased := (s.queue q).leased - 1 })))) ∧
  (∀ (s : State) (q : QueueId),
    let r := s.queue q
    completeDrain q s =
      if r.state = .draining ∧ r.list = [] ∧ r.leased = 0 ∧ r.pending = 0 then
        postAll .queue (r.consumer :: ([0, 1, 2, 3].filter fun k : Port =>
            k ≠ r.consumer ∧ r.producers.getLsbD k.val = true)) (.queueClosed q)
          (s.setQueue q { r with state := .unused, flag := false })
      else s)

/-- 02 R31, R46, 01 R8: the queue checks of a PutOpen or Put, in their order; a pass raises the pending count, evaluates
the flag and sends the allocation request; in the reset hold they are held. -/
def Obligations.QueueChecksJudged : Prop :=
  ∀ (s : State) (p : Port) (q : QueueId) (n : Nat) (rest : List QueueMsg),
    s.links.toQueue.sent .pool = .checks p q n :: rest →
    exec .queueChecks s = .next (
      let s1 := restQueue .pool rest s
      let r := s.queue q
      if s.engine.hold then s1.setEngine { s.engine with held := s.engine.held ++ [.checks p q n] }
      else if r.state ≠ .opened then sendPool .queue (.checkRefusal p .queueNotOpen) s1
      else if r.producers.getLsbD p.val = false then sendPool .queue (.checkRefusal p .notProducer) s1
      else if r.depth ≤ r.list.length + r.leased + r.pending then sendPool .queue (.checkRefusal p .queueFull) s1
      else sendPool .queue (.alloc p { cells := n, queue := q })
        (evalFlag q (s1.setQueue q { r with pending := r.pending + 1 })))

/-- 02 R28, R30, R33, R34, R46: a commit joins the tail of its class with the next sequence and a delivery count of 0; a
reinsertion joins the head of its class as it is, but is discarded in the reset hold. Arrival goes to the consumer when
the list was empty; the commit is answered with the sequence. -/
def Obligations.CommitAndReinsertionJoinTheirClass : Prop :=
  (∀ (s : State) (q : QueueId) (m : Message) (rest : List QueueMsg),
    s.links.toQueue.sent .pool = .commit q m :: rest → ClassOrder (s.queue q).list →
    exec .commit s = .next (
      let r := s.queue q
      let m' := { m with sequence := r.nextSeq, deliveries := 0 }
      let s1 := (restQueue .pool rest s).setQueue q { r with
        list := if m.cls = .urgent then r.list.filter (·.cls = .urgent) ++ m' :: r.list.filter (·.cls = .normal)
          else r.list ++ [m']
        pending := r.pending - 1
        nextSeq := r.nextSeq + 1 }
      sendPool .queue (.commitAnswer m.producer q r.nextSeq)
        (if r.list = [] then postNote .queue r.consumer (.arrival q) s1 else s1))) ∧
  (∀ (s : State) (q : QueueId) (m : Message) (rest : List QueueMsg),
    s.links.toQueue.sent .lease = .reinsertion q m :: rest → ClassOrder (s.queue q).list →
    exec .reinsertion s = .next (
      let r := s.queue q
      let s0 := restQueue .lease rest s
      if s.engine.hold then s0
      else
        let s1 := s0.setQueue q { r with
          list := if m.cls = .urgent then m :: r.list
            else r.list.filter (·.cls = .urgent) ++ m :: r.list.filter (·.cls = .normal)
          leased := r.leased - 1 }
        if r.list = [] then postNote .queue r.consumer (.arrival q) s1 else s1))

/-- 02 R29, R46: the head removal of a Take, judged in the order QueueNotOpen, NotConsumer, Empty; a pass takes the head
of the list, raises the leased count and answers with the message, the lease period and the delivery mode; in the reset
hold it is held. -/
def Obligations.HeadRemovalJudged : Prop :=
  ∀ (s : State) (p : Port) (q : QueueId) (rest : List QueueMsg),
    s.links.toQueue.sent .lease = .headRemoval p q :: rest →
    exec .headRemoval s = .next (
      let s1 := restQueue .lease rest s
      let r := s.queue q
      if s.engine.hold then s1.setEngine { s.engine with held := s.engine.held ++ [.headRemoval p q] }
      else if r.state = .unused then sendLease .queue (.headAnswer p (.refused .queueNotOpen)) s1
      else if r.consumer ≠ p then sendLease .queue (.headAnswer p (.refused .notConsumer)) s1
      else match r.list with
        | [] => sendLease .queue (.headAnswer p (.refused .empty)) s1
        | m :: tail => sendLease .queue (.headAnswer p (.message m r.period r.mode))
            (s1.setQueue q { r with list := tail, leased := r.leased + 1 }))

/-- 02 R35, 05 R96, R97, R99, R100: a dead-letter request. With a dead-letter queue named, another queue, Open and with
room, the message moves to the tail of its class there, with a new sequence, no deliveries and its origin; else it is
dropped, and the dropped count rises up to 65535. The origin's leased count falls, the flags are evaluated, its drain may
complete, and the lease manager is answered. In the reset hold the answer is Cleared and nothing changes. The order of the posts
is the model's choice (assumption 19). -/
def Obligations.DeadLetterStep : Prop :=
  (∀ (s : State) (q : QueueId) (m : Message) (cause : DeadCause) (rest : List QueueMsg),
    s.links.toQueue.sent .lease = .deadLetter q m cause :: rest → s.engine.hold = true →
    exec .deadLetterRequest s = .next (sendLease .queue (.deadAnswer .cleared) (restQueue .lease rest s))) ∧
  (∀ (s : State) (q d : QueueId) (m : Message) (cause : DeadCause) (rest : List QueueMsg),
    s.links.toQueue.sent .lease = .deadLetter q m cause :: rest → s.engine.hold = false →
    (s.queue q).deadLetter = some d → d ≠ q → (s.queue d).state = .opened →
    (s.queue d).list.length + (s.queue d).leased + (s.queue d).pending < (s.queue d).depth →
    ClassOrder (s.queue d).list →
    exec .deadLetterRequest s = .next (
      let r := s.queue d
      let m' := { m with sequence := r.nextSeq, deliveries := 0, origin := some (q, cause) }
      let s1 := ((restQueue .lease rest s).setQueue q { s.queue q with leased := (s.queue q).leased - 1 }).setQueue d
        { r with
          list := if m.cls = .urgent then r.list.filter (·.cls = .urgent) ++ m' :: r.list.filter (·.cls = .normal)
            else r.list ++ [m']
          nextSeq := r.nextSeq + 1 }
      let s2 := if r.list = [] then postNote .queue r.consumer (.arrival d) s1 else s1
      sendLease .queue (.deadAnswer (.moved q)) (completeDrain q (evalFlag d (evalFlag q s2))))) ∧
  (∀ (s : State) (q : QueueId) (m : Message) (cause : DeadCause) (rest : List QueueMsg),
    s.links.toQueue.sent .lease = .deadLetter q m cause :: rest → s.engine.hold = false →
    (∀ d, (s.queue q).deadLetter = some d → (s.queue d).state ≠ .opened ∨
      (s.queue d).depth ≤ (s.queue d).list.length + (s.queue d).leased + (s.queue d).pending) →
    exec .deadLetterRequest s = .next (
      sendLease .queue (.deadAnswer (.dropped q cause m)) <| completeDrain q <| evalFlag q <|
        (restQueue .lease rest s).setQueue q { s.queue q with
          leased := (s.queue q).leased - 1
          dropped := if (s.queue q).dropped < 65535 then (s.queue q).dropped + 1 else 65535 }))

/-- 02 R25: a DefineQueue whose arguments are out of range is answered Range and changes nothing; otherwise its fields
are read as 10 section 10.7.2 lays them out. 0xFF stands for no dead-letter queue (assumption 17), and a producer set byte
above 15 is out of range (assumption 18). A payload of another length than 15 bytes is answered Range (10 R164; its place
before the other checks is DEDUCED, assumption 28). In the reset hold every DefineQueue is held (02 R46). -/
def Obligations.DefineQueueArguments : Prop :=
  (∀ (s : State) (p : Port) (q c ps limit dm pe dq : Byte) (depth h w period : Nat) (rest : List QueueMsg),
    depth < 65536 → h < 65536 → w < 65536 → period < 65536 → s.engine.hold = false →
    let payload := [q, c, ps] ++ byte2 depth ++ byte2 h ++ byte2 w ++ byte2 period ++ [limit, dm, pe, dq]
    s.links.toQueue.sent .config = .request p .defineQueue payload :: rest →
    let bad := 31 < q.toNat ∨ 3 < c.toNat ∨ ps.toNat = 0 ∨ 15 < ps.toNat ∨ depth = 0 ∨ 1024 < depth ∨ depth < h ∨
      (h = 0 ∧ w ≠ 0) ∨ (h ≠ 0 ∧ h ≤ w) ∨ period = 0 ∨ limit.toNat = 0 ∨ 15 < limit.toNat ∨ 1 < dm.toNat ∨
      1 < pe.toNat ∨ (31 < dq.toNat ∧ dq ≠ 0xFF) ∨ dq = q
    (bad → exec (.defineQueue .applied) s = .next (reply p .range [] (restQueue .config rest s))) ∧
    (¬bad → ∃ k d, parseDefine payload = some (k, d) ∧ k.val = q.toNat ∧ d.consumer.val = c.toNat ∧
      d.settable = { producers := ps.extractLsb' 0 4, depth := depth, high := h, low := w, period := period
                     limit := limit.toNat, producerEnd := if pe = 0 then .keep else .purge } ∧
      d.mode = (if dm = 0 then .confirmed else .streamed) ∧
      (dq = 0xFF → d.deadLetter = none) ∧ ∀ n : QueueId, n.val = dq.toNat → d.deadLetter = some n)) ∧
  (∀ (s : State) (p : Port) (payload : List Byte) (rest : List QueueMsg),
    s.links.toQueue.sent .config = .request p .defineQueue payload :: rest →
    (s.engine.hold = true → exec (.defineQueue .applied) s = .next ((restQueue .config rest s).setEngine
      { s.engine with held := s.engine.held ++ [.request p .defineQueue payload] })) ∧
    (s.engine.hold = false → payload.length ≠ 15 → parseDefine payload = none ∧
      exec (.defineQueue .applied) s = .next (reply p .range [] (restQueue .config rest s))))

/-- 02 R26, R27, R46, 05 R89: a DefineQueue in range is checked against the queue table, in the order InUse, QueueNotOpen
and InUse twice; a pass opens the queue, empty, with its definition, keeps its sequence and dropped counters, sends the
settings to the lease manager and answers Ok. In the reset hold it is held. -/
def Obligations.DefineQueueJudged : Prop :=
  ∀ (s : State) (p : Port) (payload : List Byte) (rest : List QueueMsg) (q : QueueId) (d : Definition),
    s.links.toQueue.sent .config = .request p .defineQueue payload :: rest → parseDefine payload = some (q, d) →
    let s1 := restQueue .config rest s
    let named := ∃ k, d.deadLetter = some k ∧ (s.queue k).state ≠ .opened
    let chained := ∃ k, d.deadLetter = some k ∧ ((s.queue k).deadLetter ≠ none ∨
      ∃ j, (s.queue j).state ≠ .unused ∧ (s.queue j).deadLetter = some q)
    (s.engine.hold = true → exec (.defineQueue .applied) s = .next
      (s1.setEngine { s.engine with held := s.engine.held ++ [.request p .defineQueue payload] })) ∧
    (s.engine.hold = false → (s.queue q).state ≠ .unused →
      exec (.defineQueue .applied) s = .next (reply p .inUse [] s1)) ∧
    (s.engine.hold = false → (s.queue q).state = .unused → named →
      exec (.defineQueue .applied) s = .next (reply p .queueNotOpen [] s1)) ∧
    (s.engine.hold = false → (s.queue q).state = .unused → ¬named → chained →
      exec (.defineQueue .applied) s = .next (reply p .inUse [] s1)) ∧
    (s.engine.hold = false → (s.queue q).state = .unused → ¬named → ¬chained →
      exec (.defineQueue .applied) s = .next (
        reply p .ok [] <| sendLease .queue (.settings q d.settable.limit d.settable.period) <| s1.setQueue q
          { state := .opened, consumer := d.consumer, producers := d.settable.producers, depth := d.settable.depth
            high := d.settable.high, low := d.settable.low, period := d.settable.period, limit := d.settable.limit
            mode := d.mode, producerEnd := d.settable.producerEnd, deadLetter := d.deadLetter, list := []
            leased := 0, pending := 0, flag := false, nextSeq := (s.queue q).nextSeq
            dropped := (s.queue q).dropped }))

/-- 02 R43, R44, R46, 05 R89, 06 R105: a SetQueue is answered Range, QueueNotOpen or InUse, in that order, or replaces the
seven settable fields together, evaluates the flag at once, sends the settings to the lease manager and answers Ok. In
the reset hold it is held. That a producer set byte above 15 is out of range is DEDUCED (assumption 18), and so is the
place of Range for a payload of another length than 12 (assumption 28). -/
def Obligations.SetQueueJudged : Prop :=
  (∀ (s : State) (p : Port) (payload : List Byte) (rest : List QueueMsg),
    s.links.toQueue.sent .config = .request p .setQueue payload :: rest →
    exec (.setQueue .applied) s = .next (
      let s1 := restQueue .config rest s
      if s.engine.hold then s1.setEngine { s.engine with held := s.engine.held ++ [.request p .setQueue payload] }
      else match parseSet payload with
        | none => reply p .range [] s1
        | some (q, x) =>
          let r := s.queue q
          if r.state = .unused then reply p .queueNotOpen [] s1
          else if x.depth < r.list.length + r.leased + r.pending then reply p .inUse [] s1
          else reply p .ok [] <| sendLease .queue (.settings q x.limit x.period) <| evalFlag q <| s1.setQueue q
            { r with producers := x.producers, depth := x.depth, high := x.high, low := x.low, period := x.period
                     limit := x.limit, producerEnd := x.producerEnd })) ∧
  (∀ (q ps limit pe : Byte) (depth h w period : Nat),
    depth < 65536 → h < 65536 → w < 65536 → period < 65536 →
    let payload := [q, ps] ++ byte2 depth ++ byte2 h ++ byte2 w ++ byte2 period ++ [limit, pe]
    let bad := 31 < q.toNat ∨ ps.toNat = 0 ∨ 15 < ps.toNat ∨ depth = 0 ∨ 1024 < depth ∨ depth < h ∨
      (h = 0 ∧ w ≠ 0) ∨ (h ≠ 0 ∧ h ≤ w) ∨ period = 0 ∨ limit.toNat = 0 ∨ 15 < limit.toNat ∨ 1 < pe.toNat
    (bad → parseSet payload = none) ∧
    (¬bad → ∃ k x, parseSet payload = some (k, x) ∧ k.val = q.toNat ∧
      x = { producers := ps.extractLsb' 0 4, depth := depth, high := h, low := w, period := period
            limit := limit.toNat, producerEnd := if pe = 0 then .keep else .purge })) ∧
  (∀ payload : List Byte, payload.length ≠ 12 → parseSet payload = none)

/-- 02 R37 to R40, R46: a CloseQueue makes an Open queue Draining, or Unused at once where nothing is in it, and answers
the state; a PurgeQueue removes the whole list, releases the cells in list order, has the leased messages marked, and
answers the two counts. Either is answered Range for any payload but one byte 0 to 31, and QueueNotOpen, and held in the
reset hold. -/
def Obligations.CloseAndPurgeJudged : Prop :=
  (∀ (s : State) (p : Port) (payload : List Byte) (rest : List QueueMsg),
    s.links.toQueue.sent .config = .request p .closeQueue payload :: rest →
    exec (.closeQueue .applied) s = .next (
      let s1 := restQueue .config rest s
      if s.engine.hold then s1.setEngine { s.engine with held := s.engine.held ++ [.request p .closeQueue payload] }
      else match parseQueue payload with
        | none => reply p .range [] s1
        | some q =>
          let r := s.queue q
          match r.state with
          | .unused => reply p .queueNotOpen [] s1
          | .draining => reply p .ok [2] s1
          | .opened =>
            reply p .ok [if r.list.length + r.leased + r.pending = 0 then 0 else 2]
              (completeDrain q (s1.setQueue q { r with state := .draining })))) ∧
  (∀ (s : State) (p : Port) (payload : List Byte) (rest : List QueueMsg),
    s.links.toQueue.sent .config = .request p .purgeQueue payload :: rest →
    exec (.purgeQueue .applied) s = .next (
      let s1 := restQueue .config rest s
      if s.engine.hold then s1.setEngine { s.engine with held := s.engine.held ++ [.request p .purgeQueue payload] }
      else match parseQueue payload with
        | none => reply p .range [] s1
        | some q =>
          let r := s.queue q
          if r.state = .unused then reply p .queueNotOpen [] s1
          else
            let s2 := r.list.foldl (fun u m => sendPool .queue (.release m.producer m.chain) u)
              (s1.setQueue q { r with list := [] })
            reply p .ok (byte2 r.list.length ++ byte2 r.leased) <| completeDrain q <| evalFlag q <|
              if 0 < r.leased then sendLease .queue (.purgeMark q none) s2 else s2)) ∧
  (∀ (payload : List Byte) (q : QueueId), parseQueue payload = some q ↔ ∃ b, payload = [b] ∧ b.toNat = q.val)

/-- 02 R42: the queue engine's part of a session end. Every queue that is not Unused and has "Producer end = Purge" loses
the messages of the port, whose cells are released in list order, and has the leased ones marked; its flag and drain
follow; the cleanup is reported. The order of the queues, and that a queue of which nothing is removed is evaluated too,
are the model's choice (assumptions 19, 31). -/
def Obligations.QueueSessionEndPurges : Prop :=
  (∀ (s : State) (p : Port) (rest : List QueueMsg), s.links.toQueue.sent (.port p) = .sessionEnd p :: rest →
    exec (.queueSessionEnd p) s = .next (reportCleanup p .queue (allQueues.foldl (fun u q =>
      let r := u.queue q
      if r.state ≠ .unused ∧ r.producerEnd = .purge then
        let v := (r.list.filter (·.producer = p)).foldl
          (fun u m => sendPool .queue (.release m.producer m.chain) u)
          (u.setQueue q { r with list := r.list.filter fun m => m.producer ≠ p })
        completeDrain q (evalFlag q (if 0 < r.leased then sendLease .queue (.purgeMark q (some p)) v else v))
      else u) (restQueue (.port p) rest s)))) ∧
  allQueues.length = 32 ∧ (∀ i (h : i < allQueues.length), (allQueues[i]).val = i)

/-- 02 R45, R46: the clearing order empties every list and count, clears the flags, makes Draining queues Unused and
begins the reset hold; with the cancellation notice it is reported. The completion ends the hold and takes what was held,
in its order, as if it arrived then. -/
def Obligations.QueueClearingAndCompletion : Prop :=
  (∀ (s : State) (rest : List QueueMsg), s.links.toQueue.sent .pool = .clearingOrder :: rest →
    ∃ t, exec .queueClearingOrder s = .next t ∧
      (∀ q, t.queue q = { s.queue q with
        state := if (s.queue q).state = .draining then .unused else (s.queue q).state
        list := [], leased := 0, pending := 0, flag := false }) ∧
      t = (let s1 := { restQueue .pool rest s with queues := t.queues }
        if s.engine.gotNotice then
          sendPool .queue .cleared (s1.setEngine { s.engine with hold := true, gotOrder := false, gotNotice := false })
        else s1.setEngine { s.engine with hold := true, gotOrder := true })) ∧
  (∀ (s : State) (rest : List QueueMsg), s.links.toQueue.sent .lease = .cancelled :: rest →
    exec .cancellationNotice s = .next (
      let s1 := restQueue .lease rest s
      if s.engine.gotOrder then
        sendPool .queue .cleared (s1.setEngine { s.engine with gotOrder := false, gotNotice := false })
      else s1.setEngine { s.engine with gotNotice := true })) ∧
  (∀ (s : State) (rest : List QueueMsg), s.links.toQueue.sent .pool = .completion :: rest →
    exec .queueResetCompletion s = .next (s.engine.held.foldl (fun u x => judgeQueue x u)
      ((restQueue .pool rest s).setEngine { s.engine with hold := false, held := [] }))) ∧
  (∀ (u : State) (p : Port) (q : QueueId) (n : Nat) (r : Req) (payload : List Byte), u.engine.hold = false →
    (∀ l, u.links.toQueue.sent .pool = .checks p q n :: l →
      exec .queueChecks u = .next (judgeQueue (.checks p q n) (restQueue .pool l u))) ∧
    (∀ l, u.links.toQueue.sent .lease = .headRemoval p q :: l →
      exec .headRemoval u = .next (judgeQueue (.headRemoval p q) (restQueue .lease l u))) ∧
    (∀ l c, u.links.toQueue.sent .config = .request p r payload :: l →
      (r, c) ∈ [(Req.defineQueue, Instr.defineQueue .applied), (.setQueue, .setQueue .applied),
        (.closeQueue, .closeQueue .applied), (.purgeQueue, .purgeQueue .applied)] →
      exec c u = .next (judgeQueue (.request p r payload) (restQueue .config l u))) ∧
    (∀ l, u.links.toQueue.sent (.port p) = .request p .queueStatus payload :: l →
      exec (.queueStatus (.taken p)) u =
        .next (judgeQueue (.request p .queueStatus payload) (restQueue (.port p) l u))))

/-! ### Lease manager -/

/-- 04 R69, R70, R86: a Take at a port with 16 leases is answered LeaseLimit with the count, one with a queue id out of
range Range; otherwise it sets aside the counter's value, or the first value after it that no lease of the port carries,
counting 255 as followed by 1, and asks for the head of its queue. In the reset hold it is held. What follows a refusal
where a session end waits is `leaseDeferred` (`LeaseSessionEndReturnsLeases`), which for a Take refused here is the
model's choice (assumption 36). -/
def Obligations.TakeSetsAsideAnId : Prop :=
  ∀ (s : State) (p : Port) (payload : List Byte) (rest : List LeaseMsg),
    s.links.toLease.sent (.port p) = .request p .take payload :: rest → LeasesSound s.leases p →
    let s1 := restLease (.port p) rest s
    let held := (sel s.leases.lists p).map (·.id)
    let after (n : Nat) : Nat := if n < 255 then n + 1 else 1
    (s.leases.hold = true → exec (.take (.taken p)) s = .next
      (s1.setLeases { s.leases with held := s.leases.held ++ [.request p .take payload] })) ∧
    (s.leases.hold = false → held.length = 16 →
      exec (.take (.taken p)) s = .next (leaseDeferred p (reply p .leaseLimit [16] s1))) ∧
    (s.leases.hold = false → held.length < 16 → parseQueue payload = none →
      exec (.take (.taken p)) s = .next (leaseDeferred p (reply p .range [] s1))) ∧
    (∀ q, s.leases.hold = false → held.length < 16 → parseQueue payload = some q →
      ∃ k id, k < 255 ∧ id = after^[k] (sel s.leases.counter p) ∧ id ∉ held ∧ 1 ≤ id ∧ id ≤ 255 ∧
        (∀ j, j < k → after^[j] (sel s.leases.counter p) ∈ held) ∧
        exec (.take (.taken p)) s = .next (sendQueue .lease (.headRemoval p q) (s1.setLeases { s.leases with
          takes := upd s.leases.takes p (some { id := id, queue := q, overtaken := false }) })))

/-- 04 R71 to R73, R86: the answer to the head removal of a Take in progress. A refusal is passed on; a message for a
Take that a ResetPool overtook is discarded and the Take answered Empty; otherwise the lease is created at the tail of the
list, with its deadline, and the first 256 bytes answered; a Streamed message of at most 256 bytes is freed at once and
answered completed with lease id 0. The descriptor in the answer has the 16 bytes of 04 R74 and 10 section 10.7.3. -/
def Obligations.HeadRemovalAnswerEndsTheTake : Prop :=
  (∀ (s : State) (p : Port) (t : TakeBusy) (a : HeadAnswer) (rest : List LeaseMsg),
    s.links.toLease.sent .queue = .headAnswer p a :: rest → sel s.leases.takes p = some t →
    let s1 := restLease .queue rest s
    let x := { s.leases with takes := upd s.leases.takes p none }
    let y := { x with counter := upd s.leases.counter p (if t.id < 255 then t.id + 1 else 1) }
    (∀ st, a = .refused st →
      exec .headRemovalAnswer s = .next (leaseDeferred p (reply p st [] (s1.setLeases x)))) ∧
    (∀ m period mode, a = .message m period mode → t.overtaken = true →
      exec .headRemovalAnswer s = .next (leaseDeferred p (reply p .empty [] (s1.setLeases x)))) ∧
    (∀ m period, a = .message m period .streamed → t.overtaken = false → m.length ≤ 256 →
      exec .headRemovalAnswer s = .next (leaseDeferred p <|
        sendQueue .lease (.leasedDecrement t.queue) <| sendPool .lease (.release m.producer m.chain) <|
          reply p .ok ([0, 0, 0, 1] ++ descriptor t.queue m ++ fetchBytes m.chain s.pool.cells 0 m.length)
            (s1.setLeases y))) ∧
    (∀ m period mode, a = .message m period mode → t.overtaken = false → mode = .confirmed ∨ 256 < m.length →
      exec .headRemovalAnswer s = .next (leaseDeferred p <|
        reply p .ok ([BitVec.ofNat 8 t.id] ++ byte2 period ++ [0] ++ descriptor t.queue m ++
            fetchBytes m.chain s.pool.cells 0 (min m.length 256))
          (s1.setLeases { y with lists := upd s.leases.lists p (sel s.leases.lists p ++
            [{ id := t.id, queue := t.queue, mode := mode, message := m
               deadline := s.leases.timeBase + BitVec.ofNat 32 period, delivered := min m.length 256 }]) })))) ∧
  (∀ (q : QueueId) (m : Message),
    let presence := (if m.corr = none then 0 else 1) + (if m.reply = none then 0 else 2) +
      (if m.origin = none then 0 else 4)
    descriptor q m = [BitVec.ofNat 8 presence, BitVec.ofNat 8 q.val] ++ byte2 m.length ++
      [match m.cls with | .normal => 0 | .urgent => 1, BitVec.ofNat 8 m.producer.val] ++ byte2 m.sequence.toNat ++
      [BitVec.ofNat 8 m.deliveries] ++
      (match m.corr with | none => [0, 0, 0, 0] | some w => byte4 w) ++
      [match m.reply with | none => 0 | some r => BitVec.ofNat 8 r.val] ++
      (match m.origin with
        | none => [0, 0]
        | some (o, cause) => [BitVec.ofNat 8 o.val, match cause with | .limit => 1 | .discarded => 2]))

/-- 04 R75, R76, R86: a Read answers LeaseUnknown or Range, or delivers the bytes asked for and raises the bytes
delivered; where that reaches the end of a Streamed message, the lease leaves the list and the message is freed. That
the remaining time is that of the moment of the Read is DEDUCED (assumption 27). In the reset hold it is held. A payload
of another length than 5 bytes is answered Range (10 R164; that this comes before LeaseUnknown is DEDUCED, assumption
28). -/
def Obligations.ReadDeliversBytes : Prop :=
  (∀ (s : State) (p : Port) (id : Byte) (offset count : Nat) (rest : List LeaseMsg),
    offset < 65536 → count < 65536 → LeasesSound s.leases p →
    s.links.toLease.sent (.port p) =
      .request p .read (id :: (byte2 offset ++ byte2 count)) :: rest →
    let s1 := restLease (.port p) rest s
    (s.leases.hold = true → exec (.read (.taken p)) s = .next (s1.setLeases { s.leases with
      held := s.leases.held ++ [.request p .read (id :: (byte2 offset ++ byte2 count))] })) ∧
    (s.leases.hold = false → (∀ l ∈ sel s.leases.lists p, l.id ≠ id.toNat) →
      exec (.read (.taken p)) s = .next (reply p .leaseUnknown [] s1)) ∧
    (∀ l ∈ sel s.leases.lists p, s.leases.hold = false → l.id = id.toNat →
      exec (.read (.taken p)) s = .next (
        if count = 0 ∨ 256 < count ∨ l.message.length < offset + count then reply p .range [] s1
        else
          let reached := max l.delivered (offset + count)
          let completed := decide (l.mode = .streamed ∧ reached = l.message.length)
          let s2 := reply p .ok (byte2 reached ++ byte2 (l.deadline - s.leases.timeBase).toNat ++ [if completed = true then 1 else 0] ++
            fetchBytes l.message.chain s.pool.cells offset count) s1
          if completed then
            sendQueue .lease (.leasedDecrement l.queue) <|
              sendPool .lease (.release l.message.producer l.message.chain) <| s2.setLeases { s.leases with
                lists := upd s.leases.lists p ((sel s.leases.lists p).filter (·.id ≠ id.toNat)) }
          else s2.setLeases { s.leases with
            lists := upd s.leases.lists p ((sel s.leases.lists p).map fun z =>
              if z.id = id.toNat then { l with delivered := reached } else z) }))) ∧
  (∀ (s : State) (p : Port) (payload : List Byte) (rest : List LeaseMsg),
    s.links.toLease.sent (.port p) = .request p .read payload :: rest →
    (s.leases.hold = true → exec (.read (.taken p)) s = .next ((restLease (.port p) rest s).setLeases
      { s.leases with held := s.leases.held ++ [.request p .read payload] })) ∧
    (s.leases.hold = false → payload.length ≠ 5 →
      exec (.read (.taken p)) s = .next (reply p .range [] (restLease (.port p) rest s))))

/-- 05 R90 to R93: the redelivery path. The delivery count rises; a purge-marked message is freed, with a release and a
leased decrement; a Discard, or a count at the redelivery limit, goes to the dead-letter step, its request recorded as
outstanding; any other message is reinserted. -/
def Obligations.RedeliveryPath : Prop :=
  ∀ (s : State) (q : QueueId) (m : Message) (discarded : Bool),
    let m' := { m with deliveries := m.deliveries + 1 }
    let x := { s.leases with outstanding := s.leases.outstanding ++ [false] }
    (m.purged = true → redeliver q m discarded s =
      sendQueue .lease (.leasedDecrement q) (sendPool .lease (.release m.producer m.chain) s)) ∧
    (m.purged = false → discarded = true → redeliver q m discarded s =
      sendQueue .lease (.deadLetter q m' .discarded) (s.setLeases x)) ∧
    (m.purged = false → discarded = false → m.deliveries + 1 < sel s.leases.limits q → redeliver q m discarded s =
      sendQueue .lease (.reinsertion q m') s) ∧
    (m.purged = false → discarded = false → sel s.leases.limits q ≤ m.deliveries + 1 → redeliver q m discarded s =
      sendQueue .lease (.deadLetter q m' .limit) (s.setLeases x))

/-- 04 R77 to R79, R86: a Settle answers Range for an undefined outcome and LeaseUnknown for no such lease; otherwise the
lease leaves the list. Accept frees the message and answers its delivery count and Freed; Return and Discard send it down
the redelivery path and answer the raised count and the disposition. In the reset hold it is held. A payload of another
length than 2 bytes is answered Range (10 R164; its place is DEDUCED, assumption 28). -/
def Obligations.SettleEndsTheLease : Prop :=
  (∀ (s : State) (p : Port) (id outcome : Byte) (rest : List LeaseMsg), LeasesSound s.leases p →
    s.links.toLease.sent (.port p) = .request p .settle [id, outcome] :: rest →
    let s1 := restLease (.port p) rest s
    (s.leases.hold = true → exec (.settle (.taken p)) s = .next
      (s1.setLeases { s.leases with held := s.leases.held ++ [.request p .settle [id, outcome]] })) ∧
    (s.leases.hold = false → outcome ≠ 1 → outcome ≠ 2 → outcome ≠ 3 →
      exec (.settle (.taken p)) s = .next (reply p .range [] s1)) ∧
    (s.leases.hold = false → outcome = 1 ∨ outcome = 2 ∨ outcome = 3 →
      (∀ l ∈ sel s.leases.lists p, l.id ≠ id.toNat) →
      exec (.settle (.taken p)) s = .next (reply p .leaseUnknown [] s1)) ∧
    (∀ l ∈ sel s.leases.lists p, s.leases.hold = false → l.id = id.toNat →
      let s2 := s1.setLeases { s.leases with
        lists := upd s.leases.lists p ((sel s.leases.lists p).filter (·.id ≠ id.toNat)) }
      let freed (u : State) : State :=
        sendQueue .lease (.leasedDecrement l.queue) (sendPool .lease (.release l.message.producer l.message.chain) u)
      let m := l.message
      (outcome = 1 → exec (.settle (.taken p)) s = .next
        (reply p .ok [BitVec.ofNat 8 m.deliveries, 1] (freed s2))) ∧
      (outcome = 2 → exec (.settle (.taken p)) s = .next
        (reply p .ok [BitVec.ofNat 8 (m.deliveries + 1),
            if m.purged then 1 else if m.deliveries + 1 < sel s.leases.limits l.queue then 2 else 3]
          (redeliver l.queue m false s2))) ∧
      (outcome = 3 → exec (.settle (.taken p)) s = .next
        (reply p .ok [BitVec.ofNat 8 (m.deliveries + 1), if m.purged then 1 else 3]
          (redeliver l.queue m true s2))))) ∧
  (∀ (s : State) (p : Port) (payload : List Byte) (rest : List LeaseMsg),
    s.links.toLease.sent (.port p) = .request p .settle payload :: rest →
    (s.leases.hold = true → exec (.settle (.taken p)) s = .next ((restLease (.port p) rest s).setLeases
      { s.leases with held := s.leases.held ++ [.request p .settle payload] })) ∧
    (s.leases.hold = false → payload.length ≠ 2 →
      exec (.settle (.taken p)) s = .next (reply p .range [] (restLease (.port p) rest s))))

/-- 04 R80, R86: an Extend answers LeaseUnknown, or sets the deadline to the time base plus the lease manager's copy of the
queue's lease period and answers that period. In the reset hold it is held. A payload of another length than 1 byte is
answered Range (10 R164; its place before LeaseUnknown is DEDUCED, assumption 28). That the deadline is 1 ms ahead for a
lease period of 1 ms, so that the next advance reaches it, is the model's choice between 04 R67 and R81 (assumption
35). -/
def Obligations.ExtendSetsTheDeadline : Prop :=
  (∀ (s : State) (p : Port) (id : Byte) (rest : List LeaseMsg), LeasesSound s.leases p →
    s.links.toLease.sent (.port p) = .request p .extend [id] :: rest →
    let s1 := restLease (.port p) rest s
    (s.leases.hold = true → exec (.extend (.taken p)) s = .next
      (s1.setLeases { s.leases with held := s.leases.held ++ [.request p .extend [id]] })) ∧
    (s.leases.hold = false → (∀ l ∈ sel s.leases.lists p, l.id ≠ id.toNat) →
      exec (.extend (.taken p)) s = .next (reply p .leaseUnknown [] s1)) ∧
    (∀ l ∈ sel s.leases.lists p, s.leases.hold = false → l.id = id.toNat →
      exec (.extend (.taken p)) s = .next (
        let period := sel s.leases.periods l.queue
        reply p .ok (byte2 period) (s1.setLeases { s.leases with
          lists := upd s.leases.lists p ((sel s.leases.lists p).map fun z =>
            if z.id = id.toNat then { z with deadline := s.leases.timeBase + BitVec.ofNat 32 period } else z) })))) ∧
  (∀ (s : State) (p : Port) (payload : List Byte) (rest : List LeaseMsg),
    s.links.toLease.sent (.port p) = .request p .extend payload :: rest →
    (s.leases.hold = true → exec (.extend (.taken p)) s = .next ((restLease (.port p) rest s).setLeases
      { s.leases with held := s.leases.held ++ [.request p .extend payload] })) ∧
    (s.leases.hold = false → payload.length ≠ 1 →
      exec (.extend (.taken p)) s = .next (reply p .range [] (restLease (.port p) rest s))))

/-- 04 R66, 05 R94: an advance raises the time base by 1 and ends every lease whose deadline it reaches, Port 0 first and
oldest first in each list: LeaseExpired is posted and the message enters the redelivery path. Afterwards no lease stands
at its deadline. LEASE_EXPIRY is the advance that reaches the deadline of the lease named (assumption 11). -/
def Obligations.TimeBaseAdvanceExpiresLeases : Prop :=
  ∀ (s : State), s.resetLow = false →
    ∃ t, exec .timeBaseAdvance s = .next t ∧ t.leases.timeBase = s.leases.timeBase + 1 ∧
      (∀ p l, LeasesSound s.leases p → l ∈ sel s.leases.lists p → l.deadline = s.leases.timeBase + 1 →
        exec (.leaseExpiry p l.id) s = .next t) ∧
      (∀ p, sel t.leases.lists p =
        (sel s.leases.lists p).filter fun l => l.deadline ≠ s.leases.timeBase + 1) ∧
      t = [0, 1, 2, 3].foldl (fun u p =>
        ((sel s.leases.lists p).filter fun l => l.deadline = s.leases.timeBase + 1).foldl
          (fun u l => redeliver l.queue l.message false (postNote .lease p (.leaseExpired l.id l.queue) u))
          (u.setLeases { u.leases with
            lists := upd u.leases.lists p
              ((sel s.leases.lists p).filter fun l => l.deadline ≠ s.leases.timeBase + 1) }))
        (s.setLeases { s.leases with timeBase := s.leases.timeBase + 1 })

/-- 05 R96, R97, R100, R101, 04 R82, 05 R89: what the queue engine sends the lease manager beside head removals. The answer
to the oldest outstanding dead-letter request clears it; on Dropped, the cells are released, unless a ResetPool overtook
the request, and Dropped is posted to the producer. A purge-mark request marks the messages of the named queue, and
producer where one is named, in every lease list, and changes nothing else; a settings notice replaces the copies of the
queue's limit and period. -/
def Obligations.LeaseManagerTakesQueueMessages : Prop :=
  (∀ (s : State) (a : DeadAnswer) (overtaken : Bool) (more : List Bool) (rest : List LeaseMsg),
    s.links.toLease.sent .queue = .deadAnswer a :: rest → s.leases.outstanding = overtaken :: more →
    exec .deadLetterAnswer s = .next (
      let s1 := (restLease .queue rest s).setLeases { s.leases with outstanding := more }
      match a with
      | .dropped q cause m =>
        postNote .lease m.producer (.dropped q cause)
          (if overtaken then s1 else sendPool .lease (.release m.producer m.chain) s1)
      | .moved _ | .cleared => s1)) ∧
  (∀ (s : State) (q : QueueId) (producer : Option Port) (rest : List LeaseMsg),
    s.links.toLease.sent .queue = .purgeMark q producer :: rest →
    ∃ t, exec .purgeMarkRequest s = .next t ∧
      t = (restLease .queue rest s).setLeases { s.leases with lists := t.leases.lists } ∧
      ∀ p, sel t.leases.lists p = (sel s.leases.lists p).map fun l =>
        if l.queue = q ∧ (∀ k, producer = some k → l.message.producer = k) then
          { l with message := { l.message with purged := true } }
        else l) ∧
  (∀ (s : State) (q : QueueId) (limit period : Nat) (rest : List LeaseMsg),
    s.links.toLease.sent .queue = .settings q limit period :: rest →
    exec .settingsNotice s = .next ((restLease .queue rest s).setLeases { s.leases with
      limits := upd s.leases.limits q limit, periods := upd s.leases.periods q period }))

/-- 04 R84, R86: the lease manager's part of a session end. Behind a Take in progress or held it is deferred; otherwise
every lease of the port leaves the list, its message entering the redelivery path, oldest first, and the cleanup is
reported. A deferred part runs when `leaseDeferred` is reached; that a held Take refused after the hold is such a point
is the model's choice (assumption 36). -/
def Obligations.LeaseSessionEndReturnsLeases : Prop :=
  ∀ (s : State) (p : Port) (rest : List LeaseMsg), s.links.toLease.sent (.port p) = .sessionEnd p :: rest →
    let s1 := restLease (.port p) rest s
    let underWay := sel s.leases.takes p ≠ none ∨ ∃ payload, .request p .take payload ∈ s.leases.held
    (underWay → exec (.leaseSessionEnd p) s = .next
      (s1.setLeases { s.leases with endDeferred := upd s.leases.endDeferred p true })) ∧
    (¬underWay → exec (.leaseSessionEnd p) s = .next (reportCleanup p .lease <|
      (sel s.leases.lists p).foldl (fun u l => redeliver l.queue l.message false u)
        (s1.setLeases { s.leases with
          lists := upd s.leases.lists p [], endDeferred := upd s.leases.endDeferred p false }))) ∧
    exec (.leaseSessionEnd p) s = .next (leaseCleanup p s1) ∧
    ∀ u : State, leaseDeferred p u = if sel u.leases.endDeferred p then leaseCleanup p u else u

/-- 04 R85, R86, 05 R101: the clearing order empties every lease list, marks the Takes in progress and the outstanding
dead-letter requests as overtaken, begins the reset hold, and sends the cancellation notice and the cleared report. The
completion ends the hold and takes what was held, in its order, as if it arrived then. -/
def Obligations.LeaseClearingAndCompletion : Prop :=
  (∀ (s : State) (rest : List LeaseMsg), s.links.toLease.sent .pool = .clearingOrder :: rest →
    ∃ t, exec .leaseClearingOrder s = .next t ∧
      (∀ p, sel t.leases.lists p = [] ∧
        sel t.leases.takes p = (sel s.leases.takes p).map fun b => { b with overtaken := true }) ∧
      t.leases.outstanding = List.replicate s.leases.outstanding.length true ∧
      t = sendPool .lease .cleared (sendQueue .lease .cancelled ((restLease .pool rest s).setLeases { s.leases with
        lists := t.leases.lists, takes := t.leases.takes, outstanding := t.leases.outstanding, hold := true }))) ∧
  (∀ (s : State) (rest : List LeaseMsg), s.links.toLease.sent .pool = .completion :: rest →
    exec .leaseResetCompletion s = .next
      (releaseHeldLease s.leases.held ((restLease .pool rest s).setLeases { s.leases with hold := false }))) ∧
  (∀ (u : State) (x : LeaseMsg) (more : List LeaseMsg), releaseHeldLease [] u = u ∧
    releaseHeldLease (x :: more) u =
      releaseHeldLease more (judgeLease x (u.setLeases { u.leases with held := more }))) ∧
  (∀ (u : State) (p : Port) (payload : List Byte) (l : List LeaseMsg), u.leases.hold = false →
    ∀ r c, (r, c) ∈ [(Req.take, Instr.take (.taken p)), (.read, .read (.taken p)), (.settle, .settle (.taken p)),
        (.extend, .extend (.taken p))] →
      u.links.toLease.sent (.port p) = .request p r payload :: l →
      exec c u = .next (judgeLease (.request p r payload) (restLease (.port p) l u)))

/-! ### Notification unit -/

/-- 06 R110, R111, R112: a post taken by the notification unit is judged against the notification queue of its port. It is
discarded where the queue is disabled, where it merges with a standing entry, or where the Overflow marker stands;
otherwise it joins the tail, or leaves the marker there where 31 entries stand, and ATN is then high.
This is what `admitNote` does, the admission rule that the posts of signals are judged by. ATN is high exactly while
an entry stands or an inbound slot of the port is full (06 R117). A post of a block joins the tail of its messages to the
notification unit; a post to several ports is one post to each, in the order given, which is the model's choice (assumption 19). -/
def Obligations.PostAdmission : Prop :=
  (∀ (s : State) (b : Block) (src : Source) (p : Port) (n : Note) (rest : List NotifyMsg),
    (b, src) ∈ [(Block.config, Source.config), (.queue, .queue), (.lease, .lease)] →
    s.links.toNotify.sent src = .post p n :: rest →
    let q := sel s.notify.queues p
    let s1 := restNotify src rest s
    let joined (e : Entry) := s1.setNotify { s.notify with
      queues := upd s.notify.queues p { q with entries := q.entries ++ [e] } }
    let merges := ((∃ k, n = .arrival k) ∨ (∃ k, n = .signalWaiting k) ∨ n = .claimFree) ∧ .note n ∈ q.entries
    exec (.post b) s = .next (admitNote p n s1) ∧
    (q.enabled = false ∨ merges ∨ .overflow ∈ q.entries → exec (.post b) s = .next s1) ∧
    (q.enabled = true → ¬merges → .overflow ∉ q.entries → q.entries.length < 31 →
      exec (.post b) s = .next (joined (.note n)) ∧ atn (joined (.note n)).notify p = true) ∧
    (q.enabled = true → ¬merges → .overflow ∉ q.entries → 31 ≤ q.entries.length →
      exec (.post b) s = .next (joined .overflow) ∧ atn (joined .overflow).notify p = true)) ∧
  (∀ (u : Notify) (p : Port),
    atn u p = true ↔ (sel u.queues p).entries ≠ [] ∨ ∃ a w, signalSlot u a p = some w) ∧
  (∀ (u : State) (src : Source) (p : Port) (ps : List Port) (n : Note),
    postNote src p n u = sendNotify src (.post p n) u ∧ postAll src [] n u = u ∧
    postAll src (p :: ps) n u = postAll src ps n (postNote src p n u)) ∧
  (∀ (u : Notify) (sender target : Port), signalSlot u sender target = sel (sel u.inbound target) sender)

/-- 06 R114, R107: a Poll removes up to 4 entries from the head of the port's notification queue and is answered Ok with
the number left and the entries in their order; with a payload it is answered Range and removes nothing. The entries
left are those that stood behind the ones returned. The 6 bytes of an entry are its kind, presence bits, queue id, lease
id, port and cause (10 section 10.7.4, with the codes of 10 section 10.8). -/
def Obligations.PollReturnsEntries : Prop :=
  (∀ (s : State) (p : Port) (payload : List Byte) (rest : List NotifyMsg),
    s.links.toNotify.sent (.port p) = .request p .poll payload :: rest →
    let q := sel s.notify.queues p
    let s1 := restNotify (.port p) rest s
    (payload ≠ [] → exec (.poll (.taken p)) s = .next (reply p .range [] s1)) ∧
    (payload = [] → ∃ out left, q.entries = out ++ left ∧ out.length = min 4 q.entries.length ∧
      exec (.poll (.taken p)) s = .next (reply p .ok
        (byte1 left.length ++ byte1 out.length ++ out.flatMap Entry.bytes)
        (s1.setNotify { s.notify with queues := upd s.notify.queues p { q with entries := left } })))) ∧
  (∀ (q : QueueId) (id : Nat) (p : Port),
    (Entry.note (.arrival q)).bytes = [0x01, 1, BitVec.ofNat 8 q.val, 0, 0, 0] ∧
    (Entry.note (.queueHigh q)).bytes = [0x02, 1, BitVec.ofNat 8 q.val, 0, 0, 0] ∧
    (Entry.note (.queueSpace q)).bytes = [0x03, 1, BitVec.ofNat 8 q.val, 0, 0, 0] ∧
    (Entry.note (.leaseExpired id q)).bytes = [0x04, 1 + 2, BitVec.ofNat 8 q.val, BitVec.ofNat 8 id, 0, 0] ∧
    (Entry.note (.dropped q .limit)).bytes = [0x05, 1 + 8, BitVec.ofNat 8 q.val, 0, 0, 1] ∧
    (Entry.note (.dropped q .discarded)).bytes = [0x05, 1 + 8, BitVec.ofNat 8 q.val, 0, 0, 2] ∧
    (Entry.note (.queueClosed q)).bytes = [0x06, 1, BitVec.ofNat 8 q.val, 0, 0, 0] ∧
    (Entry.note (.signalWaiting p)).bytes = [0x07, 4, 0, 0, BitVec.ofNat 8 p.val, 0] ∧
    (Entry.note (.signalRead p)).bytes = [0x08, 4, 0, 0, BitVec.ofNat 8 p.val, 0] ∧
    (Entry.note (.signalLost p)).bytes = [0x09, 4, 0, 0, BitVec.ofNat 8 p.val, 0] ∧
    (Entry.note .claimFree).bytes = [0x0A, 0, 0, 0, 0, 0] ∧
    (Entry.note .poolReset).bytes = [0x0B, 0, 0, 0, 0, 0] ∧
    Entry.overflow.bytes = [0x0C, 0, 0, 0, 0, 0])

/-- 07 R122 to R125: a Signal is answered Range, PeerAbsent or SlotBusy, in that order, or stores its word in the slot,
posts SignalWaiting to the target by the admission rule and is answered Ok. A ReadSignals answers the words of the full
inbound slots in ascending order of sender, empties them, and posts SignalRead to each sender, in that order. -/
def Obligations.SignalAndReadSignals : Prop :=
  (∀ (s : State) (p : Port) (t : Byte) (w : Word) (rest : List NotifyMsg),
    s.links.toNotify.sent (.port p) = .request p .signal (t :: byte4 w) :: rest →
    let s1 := restNotify (.port p) rest s
    (3 < t.toNat ∨ t.toNat = p.val → exec (.signal (.taken p)) s = .next (reply p .range [] s1)) ∧
    (∀ k : Port, k.val = t.toNat → k ≠ p →
      exec (.signal (.taken p)) s = .next (
        if (sel s.notify.queues k).enabled = false then reply p .peerAbsent [] s1
        else if signalSlot s.notify p k ≠ none then reply p .slotBusy [] s1
        else reply p .ok [] (admitNote k (.signalWaiting p) (s1.setNotify { s.notify with
          inbound := upd s.notify.inbound k (upd (sel s.notify.inbound k) p (some w)) }))))) ∧
  (∀ (s : State) (p : Port) (payload : List Byte) (rest : List NotifyMsg), payload.length ≠ 5 →
    s.links.toNotify.sent (.port p) = .request p .signal payload :: rest →
    exec (.signal (.taken p)) s = .next (reply p .range [] (restNotify (.port p) rest s))) ∧
  (∀ (s : State) (p : Port) (payload : List Byte) (rest : List NotifyMsg),
    s.links.toNotify.sent (.port p) = .request p .readSignals payload :: rest →
    let s1 := restNotify (.port p) rest s
    let full := [0, 1, 2, 3].filterMap fun k : Port => (signalSlot s.notify k p).map fun w => (k, w)
    (payload ≠ [] → exec (.readSignals (.taken p)) s = .next (reply p .range [] s1)) ∧
    (payload = [] → exec (.readSignals (.taken p)) s = .next (
      reply p .ok (byte1 full.length ++ full.flatMap fun x => BitVec.ofNat 8 x.1.val :: byte4 x.2)
        ((full.map (·.1)).foldl (fun u k => admitNote k (.signalRead p) u)
          (s1.setNotify { s.notify with inbound := upd s.notify.inbound p (Vector.replicate 4 none) })))))

/-- 06 R118, 07 R126: the notification unit's part of a session end. The port's notification queue is disabled and
emptied and its inbound slots are emptied; SignalLost goes to the senders of those that were full, in ascending order, by
the admission rule; the cleanup is reported, and ATN is low. -/
def Obligations.NotifySessionEndEmptiesThePort : Prop :=
  ∀ (s : State) (p : Port) (rest : List NotifyMsg), s.links.toNotify.sent (.port p) = .sessionEnd p :: rest →
    let t := reportCleanup p .notify (
      ([0, 1, 2, 3].filter fun k : Port => signalSlot s.notify k p ≠ none).foldl
        (fun u k => admitNote k (.signalLost p) u)
        ((restNotify (.port p) rest s).setNotify
          { queues := upd s.notify.queues p { enabled := false, entries := [] }
            inbound := upd s.notify.inbound p (Vector.replicate 4 none) }))
    exec (.notifySessionEnd p) s = .next t ∧ atn t.notify p = false

/-- 08 R134, 06 R116, 04 R69: the Attach announcement. The notification unit enables the port's queue and reports; the
pool manager reports the charge as it stands; the lease manager sets the port's lease id counter to 1 and reports; the
queue engine posts Arrival for each queue in use that the port consumes and that holds a message, lowest queue first, and
reports. -/
def Obligations.AttachAnnouncementsTaken : Prop :=
  ∀ (s : State) (p : Port),
    (∀ rest, s.links.toNotify.sent (.port p) = .attach p :: rest →
      exec (.notifyAttach p) s = .next (
        let s1 := (restNotify (.port p) rest s).setNotify { s.notify with
          queues := upd s.notify.queues p { sel s.notify.queues p with enabled := true } }
        s1.setLinks { s1.links with enabled := upd s.links.enabled p true })) ∧
    (∀ rest, s.links.toPool.sent (.port p) = .attach p :: rest →
      exec (.poolAttach p) s = .next
        (reportAttach p { block := .pool, charge := sel s.pool.charge p } (restPool (.port p) rest s))) ∧
    (∀ rest, s.links.toLease.sent (.port p) = .attach p :: rest →
      exec (.leaseAttach p) s = .next (reportAttach p { block := .lease, charge := 0 }
        ((restLease (.port p) rest s).setLeases { s.leases with counter := upd s.leases.counter p 1 }))) ∧
    (∀ rest, s.links.toQueue.sent (.port p) = .attach p :: rest →
      exec (.queueAttach p) s = .next (reportAttach p { block := .queue, charge := 0 }
        ((allQueues.filter fun q =>
            (s.queue q).state ≠ .unused ∧ (s.queue q).consumer = p ∧ (s.queue q).list ≠ []).foldl
          (fun u q => postNote .queue p (.arrival q) u) (restQueue (.port p) rest s))))

/-! ### Configuration unit -/

/-- 09 R148 to R150: a Claim is granted where the claim is free, and otherwise answered from the holder; a Release by the
holder frees the claim and posts ClaimFree to the three other ports; either with a payload is answered Range. The session
end of the holder frees the claim in the same way; every session end is reported clean. ClaimFree goes to the lowest
port first (assumption 19). NotClaimed carries the holder, 0xFF for none (10 R171, section 10.7.2). -/
def Obligations.ClaimReleaseAndSessionEnd : Prop :=
  (∀ (s : State) (p : Port) (payload : List Byte) (rest : List ConfigMsg),
    let s1 := restConfig (.port p) rest s
    let freed := postAll .config ([0, 1, 2, 3].filter fun k : Port => k ≠ p) .claimFree
      (s1.setConfig { s.config with holder := none })
    (s.links.toConfig.sent (.port p) = .request p .claim payload :: rest →
      exec (.claim (.taken p)) s = .next (
        if payload ≠ [] then reply p .range [] s1
        else match s.config.holder with
          | none => reply p .ok [BitVec.ofNat 8 p.val, 1] (s1.setConfig { s.config with holder := some p })
          | some h =>
            if h = p then reply p .ok [BitVec.ofNat 8 p.val, 0] s1
            else reply p .claimHeld [BitVec.ofNat 8 h.val] s1)) ∧
    (s.links.toConfig.sent (.port p) = .request p .release payload :: rest →
      exec (.release (.taken p)) s = .next (
        if payload ≠ [] then reply p .range [] s1
        else if s.config.holder = some p then reply p .ok [] freed
        else reply p .notClaimed [optByte s.config.holder] s1)) ∧
    (s.links.toConfig.sent (.port p) = .sessionEnd p :: rest →
      exec (.configSessionEnd p) s = .next
        (reportCleanup p .config (if s.config.holder = some p then freed else s1)))) ∧
  (∀ h : Port, optByte (some h) = BitVec.ofNat 8 h.val ∧ optByte (none : Option Port) = 0xFF)

/-- 09 R152, R154, R155, R157: the claim check of the seven configuration requests. Without the claim they are answered
NotClaimed with the holder. With it, the four queue requests go to the queue engine and SetBudget to the pool manager, as
they are; a SetKeepAlive in range enters the table and goes to the named port's controller; a ResetPool joins the reset
list and goes to the pool manager. The report of a setting taken answers its SetKeepAlive; a completion report removes the
head of the reset list, posts PoolReset to the four ports, lowest first (assumption 19), and answers the ResetPool. That
the claim is checked before the payload of a ResetPool is DEDUCED (assumption 16). -/
def Obligations.ConfigurationRequestsRouted : Prop :=
  (∀ (s : State) (p : Port) (r : Req) (cmd : Instr) (payload : List Byte) (rest : List ConfigMsg),
    (r, cmd) ∈ [(Req.defineQueue, Instr.defineQueue (.checked p)), (.setQueue, .setQueue (.checked p)),
      (.closeQueue, .closeQueue (.checked p)), (.purgeQueue, .purgeQueue (.checked p)),
      (.setBudget, .setBudget (.checked p)), (.setKeepAlive, .setKeepAlive (.taken p)),
      (.resetPool, .resetPool (.taken p))] →
    s.links.toConfig.sent (.port p) = .request p r payload :: rest →
    let s1 := restConfig (.port p) rest s
    (s.config.holder ≠ some p → exec cmd s = .next (reply p .notClaimed [optByte s.config.holder] s1)) ∧
    (s.config.holder = some p → r ≠ .setBudget → r ≠ .setKeepAlive → r ≠ .resetPool →
      exec cmd s = .next (sendQueue .config (.request p r payload) s1)) ∧
    (s.config.holder = some p → r = .setBudget →
      exec cmd s = .next (sendPool .config (.setBudget p payload) s1)) ∧
    (s.config.holder = some p → r = .resetPool →
      exec cmd s = .next (
        if payload ≠ [] then reply p .range [] s1
        else sendPool .config (.resetPool p)
          (s1.setConfig { s.config with resetList := s.config.resetList ++ [p] }))) ∧
    (s.config.holder = some p → r = .setKeepAlive →
      (payload.length ≠ 3 → exec cmd s = .next (reply p .range [] s1)) ∧
      ∀ (n : Byte) (k : Nat), k < 65536 → payload = n :: byte2 k →
        (3 < n.toNat ∨ (k ≠ 0 ∧ (k < 10 ∨ 60000 < k)) → exec cmd s = .next (reply p .range [] s1)) ∧
        ∀ m : Port, m.val = n.toNat → k = 0 ∨ (10 ≤ k ∧ k ≤ 60000) →
          exec cmd s = .next (
            let s2 := s1.setConfig { s.config with keepAlive := upd s.config.keepAlive m k }
            s2.setLinks { s2.links with
              settings := upd s2.links.settings m (sel s2.links.settings m ++ [{ requester := p, setting := k }]) }))) ∧
  (∀ (s : State) (p requester : Port) (k : Nat) (rest : List ConfigMsg),
    s.links.toConfig.sent (.port p) = .settingTaken requester k :: rest →
    exec (.keepAliveTakenReport p) s = .next
      (reply requester .ok (BitVec.ofNat 8 p.val :: byte2 k) (restConfig (.port p) rest s))) ∧
  (∀ (s : State) (p : Port) (more : List Port) (rest : List ConfigMsg),
    s.links.toConfig.sent .pool = .completion :: rest → s.config.resetList = p :: more →
    exec .completionReport s = .next (reply p .ok [] <| postAll .config [0, 1, 2, 3] .poolReset <|
      (restConfig .pool rest s).setConfig { s.config with resetList := more }))

/-! ### Status requests -/

/-- 11 R173 to R177: the frame of a PoolStatus sends two queries and that of a PortStatus five, and the port waits in
Executing; a PortStatus with any payload but one byte 0 to 3 is answered Range at once. Each place answers its query with
its part, or Range for a PoolStatus with a payload (10 R164), and keeps its own state. A QueueStatus is answered with the record of its queue, or
Range, and held in the reset hold; its Ok payload carries the fields in the order of 11 R176. The byte widths of the
answers that the spec does not lay out are DEDUCED (assumption 26). That both takers answer the Range of
a PoolStatus with a payload is the model's choice (assumption 33). -/
def Obligations.StatusRequestsAnswered : Prop :=
  (∀ (s : State) (p : Port) (f : Frame),
    let begun (code : Byte) (needed : Nat) := s.setPort p { s.port p with
      link := .none
      timer := (s.port p).restarted
      engine := .executing { code, tag := f.tag, discard := false, work := .status needed [] } }
    let range (code : Byte) := s.setPort p { (s.port p).built (atn s.notify p) code f.tag .range [] with
      link := .none, timer := (s.port p).restarted }
    (frameStands p 0x1B f s = true → retryMatch p 0x1B f s = none →
      exec (.poolStatus p f) s = .next (sendPool (.port p) (.poolQuery p f.payload) <|
        sendLease (.port p) (.poolQuery p f.payload) <| begun 0x1B 2)) ∧
    (frameStands p 0x1A f s = true → retryMatch p 0x1A f s = none →
      exec (.portStatus p f) s = .next (match parsePort f.payload with
        | none => range 0x1A
        | some n =>
          sendConfig (.port p) (.portQuery p n) <| sendPool (.port p) (.portQuery p n) <|
            sendLease (.port p) (.portQuery p n) <| sendNotify (.port p) (.portQuery p n) <|
              (begun 0x1A 5).setLinks { s.links with
                queries := upd s.links.queries p (sel s.links.queries p ++ [n]) }))) ∧
  (∀ (s : State) (p n : Port),
    (∀ rest, sel s.links.queries p = n :: rest → exec (.statusQuery p .controller) s = .next (
      answer p (.part (.controller (s.port n).session (s.port n).epoch (s.port n).lastEnd (s.port n).setting
          ((s.port n).timer.getD 0)))
        (s.setLinks { s.links with queries := upd s.links.queries p rest }))) ∧
    (∀ rest, s.links.toConfig.sent (.port p) = .portQuery p n :: rest →
      exec (.statusQuery p .config) s = .next
        (answer p (.part (.claim (s.config.holder == some n))) (restConfig (.port p) rest s))) ∧
    (∀ rest, s.links.toPool.sent (.port p) = .portQuery p n :: rest → exec (.statusQuery p .pool) s = .next (
      answer p (.part (.poolPort (sel s.pool.charge n) (sel s.pool.reserve n) (sel s.pool.limit n)
        (sel s.pool.slot n))) (restPool (.port p) rest s))) ∧
    (∀ l rest, s.links.toPool.sent (.port p) = .poolQuery p l :: rest → exec (.statusQuery p .pool) s = .next (
      answer p (.part (if l ≠ [] then .misfit
        else .poolCounts s.pool.freeList.length (sharedSize s.pool.reserve)
          (sharedInUse s.pool.charge s.pool.reserve) s.pool.resetting)) (restPool (.port p) rest s))) ∧
    (∀ rest, s.links.toLease.sent (.port p) = .portQuery p n :: rest → exec (.statusQuery p .lease) s = .next (
      answer p (.part (.leases ((sel s.leases.lists n).map fun l =>
        (l.id, l.queue, (l.deadline - s.leases.timeBase).toNat)))) (restLease (.port p) rest s))) ∧
    (∀ l rest, s.links.toLease.sent (.port p) = .poolQuery p l :: rest → exec (.statusQuery p .lease) s = .next
      (answer p (.part (if l ≠ [] then .misfit else .timeBase s.leases.timeBase)) (restLease (.port p) rest s))) ∧
    (∀ rest, s.links.toNotify.sent (.port p) = .portQuery p n :: rest → exec (.statusQuery p .notify) s = .next
      (answer p (.part (.notes (sel s.notify.queues n).entries.length)) (restNotify (.port p) rest s)))) ∧
  (∀ (s : State) (p : Port) (payload : List Byte) (rest : List QueueMsg),
    s.links.toQueue.sent (.port p) = .request p .queueStatus payload :: rest →
    exec (.queueStatus (.taken p)) s = .next (
      let s1 := restQueue (.port p) rest s
      if s.engine.hold then
        s1.setEngine { s.engine with held := s.engine.held ++ [.request p .queueStatus payload] }
      else match parseQueue payload with
        | none => reply p .range [] s1
        | some q => reply p .ok (statusBytes q (s.queue q)) s1)) ∧
  (∀ (payload : List Byte) (n : Port), parsePort payload = some n ↔ ∃ b, payload = [b] ∧ b.toNat = n.val) ∧
  (∀ (q : QueueId) (r : Queue), statusBytes q r =
    [match r.state with | .unused => 0 | .opened => 1 | .draining => 2, BitVec.ofNat 8 r.consumer.val,
      BitVec.ofNat 8 r.producers.toNat] ++
    byte2 r.depth ++ byte2 r.high ++ byte2 r.low ++ byte2 r.period ++
    [BitVec.ofNat 8 r.limit, match r.mode with | .confirmed => 0 | .streamed => 1,
      match r.producerEnd with | .keep => 0 | .purge => 1,
      match r.deadLetter with | none => 0xFF | some d => BitVec.ofNat 8 d.val] ++
    byte2 r.list.length ++ byte2 r.leased ++ [BitVec.ofNat 8 r.pending] ++
    byte2 (r.list.length + r.leased + r.pending) ++
    byte2 (r.list.filter fun m => m.cls = .urgent).length ++ byte2 (r.list.filter fun m => m.cls = .normal).length ++
    [if r.flag = true then 1 else 0] ++ byte2 r.nextSeq.toNat ++ byte2 r.dropped ++
    (match r.list with
      | [] => List.replicate 17 0
      | m :: _ => 1 :: descriptor q m)) ∧
  (∀ charge reserve : Vector Nat 4,
    sharedSize reserve = 4096 - (sel reserve 0 + sel reserve 1 + sel reserve 2 + sel reserve 3) ∧
    sharedInUse charge reserve = (sel charge 0 - sel reserve 0) + (sel charge 1 - sel reserve 1) +
      (sel charge 2 - sel reserve 2) + (sel charge 3 - sel reserve 3))

/-! ### The whole part -/

/-- A step takes the command at the front of the queue and runs it on the state with the queue's rest. That an empty queue
leaves the part idle is the model's choice (assumption 4). -/
def Obligations.StepTakesTheFrontCommand : Prop :=
  (∀ (s : State) (c : Instr) (rest : List Instr), s.pending = c :: rest →
    step s = exec c { s with pending := rest }) ∧
  (∀ (s : State), s.pending = [] → step s = .next s)

/-- Every command reaches at most the port controller that `controllerOf` names, DEVICE_RESET apart: the session, epoch,
timer, cache and link of every other port stay as they are. -/
def Obligations.OtherPortsUntouched : Prop :=
  ∀ (s t : State) (c : Instr) (p : Port), c ≠ .deviceReset → controllerOf c ≠ some p → exec c s = .next t →
    t.port p = s.port p

/-- 10 R163, R170, section 10.7.1: the bytes of a good frame are judged good and read back as its code and content,
whatever follows the CRC (10 R162); and every frame judged good begins with the bytes of its code and content. Those bytes
are code, tag, flags (bit 0 RETRY), payload length, payload and CRC. -/
def Obligations.FrameRoundTrip : Prop :=
  (∀ (code : Byte) (f : Frame) (more : List Byte), f.payload.length ≤ 288 →
    judgeFrame (encodeFrame code f ++ more) = .inr (code, f)) ∧
  (∀ (bytes : List Byte) (code : Byte) (f : Frame), judgeFrame bytes = .inr (code, f) →
    encodeFrame code f <+: bytes ∧ f.payload.length ≤ 288) ∧
  (∀ (code : Byte) (f : Frame),
    let covered := [code, f.tag, if f.retry = true then 1 else 0, BitVec.ofNat 8 (f.payload.length / 256),
      BitVec.ofNat 8 f.payload.length] ++ f.payload
    encodeFrame code f = covered ++ crcBytes covered)

/-- 01 R5, R6: in every step from every state, the budgets stay sound: no charge above its limit, no reserve above its
limit, the reserves within the pool, and the shared in use within the shared region. The cell store keeps its canonical
form (assumption 6): addresses rise, and no entry is what an unlisted address reads as. -/
def Obligations.StepKeepsThePool : Prop :=
  (∀ s t : State, step s = .next t → (BudgetsSound s.pool → BudgetsSound t.pool) ∧
    (CellsSound s.pool → CellsSound t.pool)) ∧
  (∀ x : Pool, CellsSound x ↔ x.cells.Pairwise (fun a b => a.1 < b.1) ∧ ∀ c ∈ x.cells, c.2 ≠ 0)

/-- 02 R21, R25, R26, R28, R43, 06 R103: in every step from every state, the queue records stay sound and no dead-letter
queue names another. -/
def Obligations.StepKeepsTheQueues : Prop :=
  ∀ s t : State, QueuesSound s → step s = .next t → QueuesSound t

/-- 04 R68, R69: in every step from every state, each port holds at most 16 leases, with distinct ids from 1 to 255, and a
Take in progress keeps its set-aside id and its place free. -/
def Obligations.StepKeepsTheLeases : Prop :=
  ∀ s t : State, (∀ p, LeasesSound s.leases p) → step s = .next t → ∀ p, LeasesSound t.leases p

/-- 06 R107, R110 to R112, 07 R121: in every step from every state, the notification queues stay within their bounds, with
the marker last and no merging entry twice, and no signal slot from a port to itself is full. -/
def Obligations.StepKeepsTheNotifications : Prop :=
  ∀ s t : State, (∀ p, NotesSound (sel s.notify.queues p)) → SignalsSound s.notify → step s = .next t →
    (∀ p, NotesSound (sel t.notify.queues p)) ∧ SignalsSound t.notify

/-- 08 R130, R134, R139, R140, R143, 10 R161, R162: in every step from every state, every port controller stays sound: the
timer runs in Attached only and within its setting, the port is Closing exactly while a cleanup report is outstanding, and
the request engine receives exactly while a request frame is in reception. -/
def Obligations.StepKeepsThePorts : Prop :=
  ∀ s t : State, (∀ p, PortSound (s.port p)) → step s = .next t → ∀ p, PortSound (t.port p)

/-- The state after reset meets everything that the steps keep; no command waits in it (assumption 4). -/
def Obligations.ResetStateIsSound : Prop :=
  BudgetsSound State.reset.pool ∧ CellsSound State.reset.pool ∧ QueuesSound State.reset ∧
    (∀ p, LeasesSound State.reset.leases p) ∧ (∀ p, NotesSound (sel State.reset.notify.queues p)) ∧
    SignalsSound State.reset.notify ∧ (∀ p, PortSound (State.reset.port p)) ∧ State.reset.pending = []
end

