-- ==== Sys2Proof/Laws/Tables.lean ====
section
/-! SUPPORT. What tables and inboxes hold after an update. -/

namespace Sys2Proof.Machine

variable {α : Type} {n : Nat}

@[simp] theorem sel_upd_same (v : Vector α n) (i : Fin n) (x : α) : sel (upd v i x) i = x := by
  simp [sel, upd]

theorem sel_upd_ne (v : Vector α n) {i j : Fin n} (x : α) (h : i ≠ j) : sel (upd v i x) j = sel v j := by
  have h' : (i : Nat) ≠ j := fun e => h (Fin.ext e)
  simp [sel, upd, h']

theorem sel_upd (v : Vector α n) (i j : Fin n) (x : α) : sel (upd v i x) j = if i = j then x else sel v j := by
  by_cases h : i = j
  · subst h; simp
  · simp [sel_upd_ne _ _ h, h]

@[simp] theorem sel_replicate (x : α) (i : Fin n) : sel (Vector.replicate n x) i = x := by
  simp [sel]

@[simp] theorem sel_map {β : Type} (f : α → β) (v : Vector α n) (i : Fin n) : sel (v.map f) i = f (sel v i) := by
  simp [sel]

@[simp] theorem sel_ofFn (f : Fin n → α) (i : Fin n) : sel (Vector.ofFn f) i = f i := by
  simp [sel]

/-- Two tables with the same entries are the same table. -/
theorem sel_ext {v w : Vector α n} (h : ∀ i, sel v i = sel w i) : v = w := by
  ext i hi
  exact h ⟨i, hi⟩

@[simp] theorem upd_sel (v : Vector α n) (i : Fin n) : upd v i (sel v i) = v :=
  sel_ext fun j => by rw [sel_upd]; split <;> simp_all

@[simp] theorem upd_upd (v : Vector α n) (i : Fin n) (x y : α) : upd (upd v i x) i y = upd v i y :=
  sel_ext fun j => by simp only [sel_upd]; split <;> rfl

theorem upd_comm (v : Vector α n) {i j : Fin n} (x y : α) (h : i ≠ j) :
    upd (upd v i x) j y = upd (upd v j y) i x :=
  sel_ext fun k => by
    simp only [sel_upd]
    by_cases hj : j = k
    · subst hj; simp [h]
    · simp [hj]

@[simp] theorem Inbox.sent_put_same (b : Inbox α) (src : Source) (l : List α) : (b.put src l).sent src = l := by
  cases src <;> simp [Inbox.put, Inbox.sent]

theorem Inbox.sent_put_ne (b : Inbox α) {src other : Source} (l : List α) (h : src ≠ other) :
    (b.put src l).sent other = b.sent other := by
  cases src <;> cases other <;> simp_all [Inbox.put, Inbox.sent, sel_upd_ne]

@[simp] theorem Inbox.put_put (b : Inbox α) (src : Source) (l k : List α) : (b.put src l).put src k = b.put src k := by
  cases src <;> simp [Inbox.put]

@[simp] theorem Inbox.put_sent (b : Inbox α) (src : Source) : b.put src (b.sent src) = b := by
  cases src <;> simp [Inbox.put, Inbox.sent]

@[simp] theorem Inbox.sent_push_same (b : Inbox α) (src : Source) (x : α) :
    (b.push src x).sent src = b.sent src ++ [x] := by
  simp [Inbox.push]

theorem Inbox.sent_push_ne (b : Inbox α) {src other : Source} (x : α) (h : src ≠ other) :
    (b.push src x).sent other = b.sent other :=
  Inbox.sent_put_ne b _ h

@[simp] theorem Inbox.sent_empty (src : Source) : (Inbox.empty : Inbox α).sent src = [] := by
  cases src <;> simp [Inbox.sent, Inbox.empty]

theorem mem_allPorts (p : Port) : p ∈ allPorts := by
  revert p; decide

theorem mem_allQueues (q : QueueId) : q ∈ allQueues := List.mem_finRange q

end Sys2Proof.Machine
end

