-- ==== Sys2Proof/Laws/State.lean ====
section
/-! SUPPORT. What each update of the state leaves and what it writes: one lemma for each field and update. -/

namespace Sys2Proof.Machine

variable (s : State)

/-! ### The setters -/

@[simp] theorem State.setPort_pool (p : Port) (c : PortCtl) : (s.setPort p c).pool = s.pool := rfl
@[simp] theorem State.setPort_queues (p : Port) (c : PortCtl) : (s.setPort p c).queues = s.queues := rfl
@[simp] theorem State.setPort_engine (p : Port) (c : PortCtl) : (s.setPort p c).engine = s.engine := rfl
@[simp] theorem State.setPort_leases (p : Port) (c : PortCtl) : (s.setPort p c).leases = s.leases := rfl
@[simp] theorem State.setPort_notify (p : Port) (c : PortCtl) : (s.setPort p c).notify = s.notify := rfl
@[simp] theorem State.setPort_config (p : Port) (c : PortCtl) : (s.setPort p c).config = s.config := rfl
@[simp] theorem State.setPort_ports (p : Port) (c : PortCtl) : (s.setPort p c).ports = upd s.ports p c := rfl
@[simp] theorem State.setPort_links (p : Port) (c : PortCtl) : (s.setPort p c).links = s.links := rfl
@[simp] theorem State.setPort_resetLow (p : Port) (c : PortCtl) : (s.setPort p c).resetLow = s.resetLow := rfl
@[simp] theorem State.setPort_pending (p : Port) (c : PortCtl) : (s.setPort p c).pending = s.pending := rfl

@[simp] theorem State.setQueue_pool (q : QueueId) (r : Queue) : (s.setQueue q r).pool = s.pool := rfl
@[simp] theorem State.setQueue_queues (q : QueueId) (r : Queue) : (s.setQueue q r).queues = upd s.queues q r := rfl
@[simp] theorem State.setQueue_engine (q : QueueId) (r : Queue) : (s.setQueue q r).engine = s.engine := rfl
@[simp] theorem State.setQueue_leases (q : QueueId) (r : Queue) : (s.setQueue q r).leases = s.leases := rfl
@[simp] theorem State.setQueue_notify (q : QueueId) (r : Queue) : (s.setQueue q r).notify = s.notify := rfl
@[simp] theorem State.setQueue_config (q : QueueId) (r : Queue) : (s.setQueue q r).config = s.config := rfl
@[simp] theorem State.setQueue_ports (q : QueueId) (r : Queue) : (s.setQueue q r).ports = s.ports := rfl
@[simp] theorem State.setQueue_links (q : QueueId) (r : Queue) : (s.setQueue q r).links = s.links := rfl
@[simp] theorem State.setQueue_resetLow (q : QueueId) (r : Queue) : (s.setQueue q r).resetLow = s.resetLow := rfl
@[simp] theorem State.setQueue_pending (q : QueueId) (r : Queue) : (s.setQueue q r).pending = s.pending := rfl

@[simp] theorem State.setPool_pool (x : Pool) : (s.setPool x).pool = x := rfl
@[simp] theorem State.setPool_queues (x : Pool) : (s.setPool x).queues = s.queues := rfl
@[simp] theorem State.setPool_engine (x : Pool) : (s.setPool x).engine = s.engine := rfl
@[simp] theorem State.setPool_leases (x : Pool) : (s.setPool x).leases = s.leases := rfl
@[simp] theorem State.setPool_notify (x : Pool) : (s.setPool x).notify = s.notify := rfl
@[simp] theorem State.setPool_config (x : Pool) : (s.setPool x).config = s.config := rfl
@[simp] theorem State.setPool_ports (x : Pool) : (s.setPool x).ports = s.ports := rfl
@[simp] theorem State.setPool_links (x : Pool) : (s.setPool x).links = s.links := rfl
@[simp] theorem State.setPool_resetLow (x : Pool) : (s.setPool x).resetLow = s.resetLow := rfl
@[simp] theorem State.setPool_pending (x : Pool) : (s.setPool x).pending = s.pending := rfl

@[simp] theorem State.setEngine_pool (x : Engine) : (s.setEngine x).pool = s.pool := rfl
@[simp] theorem State.setEngine_queues (x : Engine) : (s.setEngine x).queues = s.queues := rfl
@[simp] theorem State.setEngine_engine (x : Engine) : (s.setEngine x).engine = x := rfl
@[simp] theorem State.setEngine_leases (x : Engine) : (s.setEngine x).leases = s.leases := rfl
@[simp] theorem State.setEngine_notify (x : Engine) : (s.setEngine x).notify = s.notify := rfl
@[simp] theorem State.setEngine_config (x : Engine) : (s.setEngine x).config = s.config := rfl
@[simp] theorem State.setEngine_ports (x : Engine) : (s.setEngine x).ports = s.ports := rfl
@[simp] theorem State.setEngine_links (x : Engine) : (s.setEngine x).links = s.links := rfl
@[simp] theorem State.setEngine_resetLow (x : Engine) : (s.setEngine x).resetLow = s.resetLow := rfl
@[simp] theorem State.setEngine_pending (x : Engine) : (s.setEngine x).pending = s.pending := rfl

@[simp] theorem State.setLeases_pool (x : Leases) : (s.setLeases x).pool = s.pool := rfl
@[simp] theorem State.setLeases_queues (x : Leases) : (s.setLeases x).queues = s.queues := rfl
@[simp] theorem State.setLeases_engine (x : Leases) : (s.setLeases x).engine = s.engine := rfl
@[simp] theorem State.setLeases_leases (x : Leases) : (s.setLeases x).leases = x := rfl
@[simp] theorem State.setLeases_notify (x : Leases) : (s.setLeases x).notify = s.notify := rfl
@[simp] theorem State.setLeases_config (x : Leases) : (s.setLeases x).config = s.config := rfl
@[simp] theorem State.setLeases_ports (x : Leases) : (s.setLeases x).ports = s.ports := rfl
@[simp] theorem State.setLeases_links (x : Leases) : (s.setLeases x).links = s.links := rfl
@[simp] theorem State.setLeases_resetLow (x : Leases) : (s.setLeases x).resetLow = s.resetLow := rfl
@[simp] theorem State.setLeases_pending (x : Leases) : (s.setLeases x).pending = s.pending := rfl

@[simp] theorem State.setNotify_pool (x : Notify) : (s.setNotify x).pool = s.pool := rfl
@[simp] theorem State.setNotify_queues (x : Notify) : (s.setNotify x).queues = s.queues := rfl
@[simp] theorem State.setNotify_engine (x : Notify) : (s.setNotify x).engine = s.engine := rfl
@[simp] theorem State.setNotify_leases (x : Notify) : (s.setNotify x).leases = s.leases := rfl
@[simp] theorem State.setNotify_notify (x : Notify) : (s.setNotify x).notify = x := rfl
@[simp] theorem State.setNotify_config (x : Notify) : (s.setNotify x).config = s.config := rfl
@[simp] theorem State.setNotify_ports (x : Notify) : (s.setNotify x).ports = s.ports := rfl
@[simp] theorem State.setNotify_links (x : Notify) : (s.setNotify x).links = s.links := rfl
@[simp] theorem State.setNotify_resetLow (x : Notify) : (s.setNotify x).resetLow = s.resetLow := rfl
@[simp] theorem State.setNotify_pending (x : Notify) : (s.setNotify x).pending = s.pending := rfl

@[simp] theorem State.setConfig_pool (x : ConfigUnit) : (s.setConfig x).pool = s.pool := rfl
@[simp] theorem State.setConfig_queues (x : ConfigUnit) : (s.setConfig x).queues = s.queues := rfl
@[simp] theorem State.setConfig_engine (x : ConfigUnit) : (s.setConfig x).engine = s.engine := rfl
@[simp] theorem State.setConfig_leases (x : ConfigUnit) : (s.setConfig x).leases = s.leases := rfl
@[simp] theorem State.setConfig_notify (x : ConfigUnit) : (s.setConfig x).notify = s.notify := rfl
@[simp] theorem State.setConfig_config (x : ConfigUnit) : (s.setConfig x).config = x := rfl
@[simp] theorem State.setConfig_ports (x : ConfigUnit) : (s.setConfig x).ports = s.ports := rfl
@[simp] theorem State.setConfig_links (x : ConfigUnit) : (s.setConfig x).links = s.links := rfl
@[simp] theorem State.setConfig_resetLow (x : ConfigUnit) : (s.setConfig x).resetLow = s.resetLow := rfl
@[simp] theorem State.setConfig_pending (x : ConfigUnit) : (s.setConfig x).pending = s.pending := rfl

@[simp] theorem State.setLinks_pool (x : Links) : (s.setLinks x).pool = s.pool := rfl
@[simp] theorem State.setLinks_queues (x : Links) : (s.setLinks x).queues = s.queues := rfl
@[simp] theorem State.setLinks_engine (x : Links) : (s.setLinks x).engine = s.engine := rfl
@[simp] theorem State.setLinks_leases (x : Links) : (s.setLinks x).leases = s.leases := rfl
@[simp] theorem State.setLinks_notify (x : Links) : (s.setLinks x).notify = s.notify := rfl
@[simp] theorem State.setLinks_config (x : Links) : (s.setLinks x).config = s.config := rfl
@[simp] theorem State.setLinks_ports (x : Links) : (s.setLinks x).ports = s.ports := rfl
@[simp] theorem State.setLinks_links (x : Links) : (s.setLinks x).links = x := rfl
@[simp] theorem State.setLinks_resetLow (x : Links) : (s.setLinks x).resetLow = s.resetLow := rfl
@[simp] theorem State.setLinks_pending (x : Links) : (s.setLinks x).pending = s.pending := rfl

/-! ### Ports and queues after a setter -/

@[simp] theorem State.port_setPort_same (p : Port) (c : PortCtl) : (s.setPort p c).port p = c := by
  simp [State.port]

theorem State.port_setPort_ne {p k : Port} (c : PortCtl) (h : p ≠ k) : (s.setPort p c).port k = s.port k := by
  simp [State.port, sel_upd_ne _ _ h]

@[simp] theorem State.queue_setQueue_same (q : QueueId) (r : Queue) : (s.setQueue q r).queue q = r := by
  simp [State.queue]

theorem State.queue_setQueue_ne {q k : QueueId} (r : Queue) (h : q ≠ k) :
    (s.setQueue q r).queue k = s.queue k := by
  simp [State.queue, sel_upd_ne _ _ h]

@[simp] theorem State.queue_setPort (k : QueueId) (p : Port) (c : PortCtl) : (s.setPort p c).queue k = s.queue k := rfl
@[simp] theorem State.port_setQueue (k : Port) (q : QueueId) (r : Queue) : (s.setQueue q r).port k = s.port k := rfl
@[simp] theorem State.port_setPool (k : Port) (x : Pool) : (s.setPool x).port k = s.port k := rfl
@[simp] theorem State.queue_setPool (k : QueueId) (x : Pool) : (s.setPool x).queue k = s.queue k := rfl
@[simp] theorem State.port_setEngine (k : Port) (x : Engine) : (s.setEngine x).port k = s.port k := rfl
@[simp] theorem State.queue_setEngine (k : QueueId) (x : Engine) : (s.setEngine x).queue k = s.queue k := rfl
@[simp] theorem State.port_setLeases (k : Port) (x : Leases) : (s.setLeases x).port k = s.port k := rfl
@[simp] theorem State.queue_setLeases (k : QueueId) (x : Leases) : (s.setLeases x).queue k = s.queue k := rfl
@[simp] theorem State.port_setNotify (k : Port) (x : Notify) : (s.setNotify x).port k = s.port k := rfl
@[simp] theorem State.queue_setNotify (k : QueueId) (x : Notify) : (s.setNotify x).queue k = s.queue k := rfl
@[simp] theorem State.port_setConfig (k : Port) (x : ConfigUnit) : (s.setConfig x).port k = s.port k := rfl
@[simp] theorem State.queue_setConfig (k : QueueId) (x : ConfigUnit) : (s.setConfig x).queue k = s.queue k := rfl
@[simp] theorem State.port_setLinks (k : Port) (x : Links) : (s.setLinks x).port k = s.port k := rfl
@[simp] theorem State.queue_setLinks (k : QueueId) (x : Links) : (s.setLinks x).queue k = s.queue k := rfl

@[simp] theorem State.setPort_setPort (p : Port) (x y : PortCtl) :
    (s.setPort p x).setPort p y = s.setPort p y := by
  simp [State.setPort]
@[simp] theorem State.setQueue_setQueue (q : QueueId) (x y : Queue) :
    (s.setQueue q x).setQueue q y = s.setQueue q y := by
  simp [State.setQueue]
@[simp] theorem State.setPool_setPool (x y : Pool) : (s.setPool x).setPool y = s.setPool y := rfl
@[simp] theorem State.setEngine_setEngine (x y : Engine) : (s.setEngine x).setEngine y = s.setEngine y := rfl
@[simp] theorem State.setLeases_setLeases (x y : Leases) : (s.setLeases x).setLeases y = s.setLeases y := rfl
@[simp] theorem State.setNotify_setNotify (x y : Notify) : (s.setNotify x).setNotify y = s.setNotify y := rfl
@[simp] theorem State.setConfig_setConfig (x y : ConfigUnit) : (s.setConfig x).setConfig y = s.setConfig y := rfl
@[simp] theorem State.setLinks_setLinks (x y : Links) : (s.setLinks x).setLinks y = s.setLinks y := rfl
@[simp] theorem State.setPort_port (p : Port) : s.setPort p (s.port p) = s := by
  simp [State.setPort, State.port]
@[simp] theorem State.setQueue_queue (q : QueueId) : s.setQueue q (s.queue q) = s := by
  simp [State.setQueue, State.queue]

/-! ### Sending and taking: everything but the messages in flight is left -/

@[simp] theorem sendPool_pool (src : Source) (x : PoolMsg) : (sendPool src x s).pool = s.pool := rfl
@[simp] theorem sendPool_queues (src : Source) (x : PoolMsg) : (sendPool src x s).queues = s.queues := rfl
@[simp] theorem sendPool_engine (src : Source) (x : PoolMsg) : (sendPool src x s).engine = s.engine := rfl
@[simp] theorem sendPool_leases (src : Source) (x : PoolMsg) : (sendPool src x s).leases = s.leases := rfl
@[simp] theorem sendPool_notify (src : Source) (x : PoolMsg) : (sendPool src x s).notify = s.notify := rfl
@[simp] theorem sendPool_config (src : Source) (x : PoolMsg) : (sendPool src x s).config = s.config := rfl
@[simp] theorem sendPool_ports (src : Source) (x : PoolMsg) : (sendPool src x s).ports = s.ports := rfl
@[simp] theorem sendPool_resetLow (src : Source) (x : PoolMsg) : (sendPool src x s).resetLow = s.resetLow := rfl
@[simp] theorem sendPool_pending (src : Source) (x : PoolMsg) : (sendPool src x s).pending = s.pending := rfl
@[simp] theorem port_sendPool (k : Port) (src : Source) (x : PoolMsg) : (sendPool src x s).port k = s.port k := rfl
@[simp] theorem queue_sendPool (k : QueueId) (src : Source) (x : PoolMsg) : (sendPool src x s).queue k = s.queue k := rfl
@[simp] theorem sendPool_links_toPool (src : Source) (x : PoolMsg) :
    (sendPool src x s).links.toPool = s.links.toPool.push src x := rfl
@[simp] theorem sendPool_links_toQueue (src : Source) (x : PoolMsg) :
    (sendPool src x s).links.toQueue = s.links.toQueue := rfl
@[simp] theorem sendPool_links_toLease (src : Source) (x : PoolMsg) :
    (sendPool src x s).links.toLease = s.links.toLease := rfl
@[simp] theorem sendPool_links_toNotify (src : Source) (x : PoolMsg) :
    (sendPool src x s).links.toNotify = s.links.toNotify := rfl
@[simp] theorem sendPool_links_toConfig (src : Source) (x : PoolMsg) :
    (sendPool src x s).links.toConfig = s.links.toConfig := rfl
@[simp] theorem sendPool_links_answers (src : Source) (x : PoolMsg) :
    (sendPool src x s).links.answers = s.links.answers := rfl
@[simp] theorem sendPool_links_cleanups (src : Source) (x : PoolMsg) :
    (sendPool src x s).links.cleanups = s.links.cleanups := rfl
@[simp] theorem sendPool_links_enabled (src : Source) (x : PoolMsg) :
    (sendPool src x s).links.enabled = s.links.enabled := rfl
@[simp] theorem sendPool_links_attachReports (src : Source) (x : PoolMsg) :
    (sendPool src x s).links.attachReports = s.links.attachReports := rfl
@[simp] theorem sendPool_links_settings (src : Source) (x : PoolMsg) :
    (sendPool src x s).links.settings = s.links.settings := rfl
@[simp] theorem sendPool_links_queries (src : Source) (x : PoolMsg) :
    (sendPool src x s).links.queries = s.links.queries := rfl

@[simp] theorem sendQueue_pool (src : Source) (x : QueueMsg) : (sendQueue src x s).pool = s.pool := rfl
@[simp] theorem sendQueue_queues (src : Source) (x : QueueMsg) : (sendQueue src x s).queues = s.queues := rfl
@[simp] theorem sendQueue_engine (src : Source) (x : QueueMsg) : (sendQueue src x s).engine = s.engine := rfl
@[simp] theorem sendQueue_leases (src : Source) (x : QueueMsg) : (sendQueue src x s).leases = s.leases := rfl
@[simp] theorem sendQueue_notify (src : Source) (x : QueueMsg) : (sendQueue src x s).notify = s.notify := rfl
@[simp] theorem sendQueue_config (src : Source) (x : QueueMsg) : (sendQueue src x s).config = s.config := rfl
@[simp] theorem sendQueue_ports (src : Source) (x : QueueMsg) : (sendQueue src x s).ports = s.ports := rfl
@[simp] theorem sendQueue_resetLow (src : Source) (x : QueueMsg) : (sendQueue src x s).resetLow = s.resetLow := rfl
@[simp] theorem sendQueue_pending (src : Source) (x : QueueMsg) : (sendQueue src x s).pending = s.pending := rfl
@[simp] theorem port_sendQueue (k : Port) (src : Source) (x : QueueMsg) : (sendQueue src x s).port k = s.port k := rfl
@[simp] theorem queue_sendQueue (k : QueueId) (src : Source) (x : QueueMsg) : (sendQueue src x s).queue k = s.queue k := rfl
@[simp] theorem sendQueue_links_toPool (src : Source) (x : QueueMsg) :
    (sendQueue src x s).links.toPool = s.links.toPool := rfl
@[simp] theorem sendQueue_links_toQueue (src : Source) (x : QueueMsg) :
    (sendQueue src x s).links.toQueue = s.links.toQueue.push src x := rfl
@[simp] theorem sendQueue_links_toLease (src : Source) (x : QueueMsg) :
    (sendQueue src x s).links.toLease = s.links.toLease := rfl
@[simp] theorem sendQueue_links_toNotify (src : Source) (x : QueueMsg) :
    (sendQueue src x s).links.toNotify = s.links.toNotify := rfl
@[simp] theorem sendQueue_links_toConfig (src : Source) (x : QueueMsg) :
    (sendQueue src x s).links.toConfig = s.links.toConfig := rfl
@[simp] theorem sendQueue_links_answers (src : Source) (x : QueueMsg) :
    (sendQueue src x s).links.answers = s.links.answers := rfl
@[simp] theorem sendQueue_links_cleanups (src : Source) (x : QueueMsg) :
    (sendQueue src x s).links.cleanups = s.links.cleanups := rfl
@[simp] theorem sendQueue_links_enabled (src : Source) (x : QueueMsg) :
    (sendQueue src x s).links.enabled = s.links.enabled := rfl
@[simp] theorem sendQueue_links_attachReports (src : Source) (x : QueueMsg) :
    (sendQueue src x s).links.attachReports = s.links.attachReports := rfl
@[simp] theorem sendQueue_links_settings (src : Source) (x : QueueMsg) :
    (sendQueue src x s).links.settings = s.links.settings := rfl
@[simp] theorem sendQueue_links_queries (src : Source) (x : QueueMsg) :
    (sendQueue src x s).links.queries = s.links.queries := rfl

@[simp] theorem sendLease_pool (src : Source) (x : LeaseMsg) : (sendLease src x s).pool = s.pool := rfl
@[simp] theorem sendLease_queues (src : Source) (x : LeaseMsg) : (sendLease src x s).queues = s.queues := rfl
@[simp] theorem sendLease_engine (src : Source) (x : LeaseMsg) : (sendLease src x s).engine = s.engine := rfl
@[simp] theorem sendLease_leases (src : Source) (x : LeaseMsg) : (sendLease src x s).leases = s.leases := rfl
@[simp] theorem sendLease_notify (src : Source) (x : LeaseMsg) : (sendLease src x s).notify = s.notify := rfl
@[simp] theorem sendLease_config (src : Source) (x : LeaseMsg) : (sendLease src x s).config = s.config := rfl
@[simp] theorem sendLease_ports (src : Source) (x : LeaseMsg) : (sendLease src x s).ports = s.ports := rfl
@[simp] theorem sendLease_resetLow (src : Source) (x : LeaseMsg) : (sendLease src x s).resetLow = s.resetLow := rfl
@[simp] theorem sendLease_pending (src : Source) (x : LeaseMsg) : (sendLease src x s).pending = s.pending := rfl
@[simp] theorem port_sendLease (k : Port) (src : Source) (x : LeaseMsg) : (sendLease src x s).port k = s.port k := rfl
@[simp] theorem queue_sendLease (k : QueueId) (src : Source) (x : LeaseMsg) : (sendLease src x s).queue k = s.queue k := rfl
@[simp] theorem sendLease_links_toPool (src : Source) (x : LeaseMsg) :
    (sendLease src x s).links.toPool = s.links.toPool := rfl
@[simp] theorem sendLease_links_toQueue (src : Source) (x : LeaseMsg) :
    (sendLease src x s).links.toQueue = s.links.toQueue := rfl
@[simp] theorem sendLease_links_toLease (src : Source) (x : LeaseMsg) :
    (sendLease src x s).links.toLease = s.links.toLease.push src x := rfl
@[simp] theorem sendLease_links_toNotify (src : Source) (x : LeaseMsg) :
    (sendLease src x s).links.toNotify = s.links.toNotify := rfl
@[simp] theorem sendLease_links_toConfig (src : Source) (x : LeaseMsg) :
    (sendLease src x s).links.toConfig = s.links.toConfig := rfl
@[simp] theorem sendLease_links_answers (src : Source) (x : LeaseMsg) :
    (sendLease src x s).links.answers = s.links.answers := rfl
@[simp] theorem sendLease_links_cleanups (src : Source) (x : LeaseMsg) :
    (sendLease src x s).links.cleanups = s.links.cleanups := rfl
@[simp] theorem sendLease_links_enabled (src : Source) (x : LeaseMsg) :
    (sendLease src x s).links.enabled = s.links.enabled := rfl
@[simp] theorem sendLease_links_attachReports (src : Source) (x : LeaseMsg) :
    (sendLease src x s).links.attachReports = s.links.attachReports := rfl
@[simp] theorem sendLease_links_settings (src : Source) (x : LeaseMsg) :
    (sendLease src x s).links.settings = s.links.settings := rfl
@[simp] theorem sendLease_links_queries (src : Source) (x : LeaseMsg) :
    (sendLease src x s).links.queries = s.links.queries := rfl

@[simp] theorem sendNotify_pool (src : Source) (x : NotifyMsg) : (sendNotify src x s).pool = s.pool := rfl
@[simp] theorem sendNotify_queues (src : Source) (x : NotifyMsg) : (sendNotify src x s).queues = s.queues := rfl
@[simp] theorem sendNotify_engine (src : Source) (x : NotifyMsg) : (sendNotify src x s).engine = s.engine := rfl
@[simp] theorem sendNotify_leases (src : Source) (x : NotifyMsg) : (sendNotify src x s).leases = s.leases := rfl
@[simp] theorem sendNotify_notify (src : Source) (x : NotifyMsg) : (sendNotify src x s).notify = s.notify := rfl
@[simp] theorem sendNotify_config (src : Source) (x : NotifyMsg) : (sendNotify src x s).config = s.config := rfl
@[simp] theorem sendNotify_ports (src : Source) (x : NotifyMsg) : (sendNotify src x s).ports = s.ports := rfl
@[simp] theorem sendNotify_resetLow (src : Source) (x : NotifyMsg) : (sendNotify src x s).resetLow = s.resetLow := rfl
@[simp] theorem sendNotify_pending (src : Source) (x : NotifyMsg) : (sendNotify src x s).pending = s.pending := rfl
@[simp] theorem port_sendNotify (k : Port) (src : Source) (x : NotifyMsg) : (sendNotify src x s).port k = s.port k := rfl
@[simp] theorem queue_sendNotify (k : QueueId) (src : Source) (x : NotifyMsg) : (sendNotify src x s).queue k = s.queue k := rfl
@[simp] theorem sendNotify_links_toPool (src : Source) (x : NotifyMsg) :
    (sendNotify src x s).links.toPool = s.links.toPool := rfl
@[simp] theorem sendNotify_links_toQueue (src : Source) (x : NotifyMsg) :
    (sendNotify src x s).links.toQueue = s.links.toQueue := rfl
@[simp] theorem sendNotify_links_toLease (src : Source) (x : NotifyMsg) :
    (sendNotify src x s).links.toLease = s.links.toLease := rfl
@[simp] theorem sendNotify_links_toNotify (src : Source) (x : NotifyMsg) :
    (sendNotify src x s).links.toNotify = s.links.toNotify.push src x := rfl
@[simp] theorem sendNotify_links_toConfig (src : Source) (x : NotifyMsg) :
    (sendNotify src x s).links.toConfig = s.links.toConfig := rfl
@[simp] theorem sendNotify_links_answers (src : Source) (x : NotifyMsg) :
    (sendNotify src x s).links.answers = s.links.answers := rfl
@[simp] theorem sendNotify_links_cleanups (src : Source) (x : NotifyMsg) :
    (sendNotify src x s).links.cleanups = s.links.cleanups := rfl
@[simp] theorem sendNotify_links_enabled (src : Source) (x : NotifyMsg) :
    (sendNotify src x s).links.enabled = s.links.enabled := rfl
@[simp] theorem sendNotify_links_attachReports (src : Source) (x : NotifyMsg) :
    (sendNotify src x s).links.attachReports = s.links.attachReports := rfl
@[simp] theorem sendNotify_links_settings (src : Source) (x : NotifyMsg) :
    (sendNotify src x s).links.settings = s.links.settings := rfl
@[simp] theorem sendNotify_links_queries (src : Source) (x : NotifyMsg) :
    (sendNotify src x s).links.queries = s.links.queries := rfl

@[simp] theorem sendConfig_pool (src : Source) (x : ConfigMsg) : (sendConfig src x s).pool = s.pool := rfl
@[simp] theorem sendConfig_queues (src : Source) (x : ConfigMsg) : (sendConfig src x s).queues = s.queues := rfl
@[simp] theorem sendConfig_engine (src : Source) (x : ConfigMsg) : (sendConfig src x s).engine = s.engine := rfl
@[simp] theorem sendConfig_leases (src : Source) (x : ConfigMsg) : (sendConfig src x s).leases = s.leases := rfl
@[simp] theorem sendConfig_notify (src : Source) (x : ConfigMsg) : (sendConfig src x s).notify = s.notify := rfl
@[simp] theorem sendConfig_config (src : Source) (x : ConfigMsg) : (sendConfig src x s).config = s.config := rfl
@[simp] theorem sendConfig_ports (src : Source) (x : ConfigMsg) : (sendConfig src x s).ports = s.ports := rfl
@[simp] theorem sendConfig_resetLow (src : Source) (x : ConfigMsg) : (sendConfig src x s).resetLow = s.resetLow := rfl
@[simp] theorem sendConfig_pending (src : Source) (x : ConfigMsg) : (sendConfig src x s).pending = s.pending := rfl
@[simp] theorem port_sendConfig (k : Port) (src : Source) (x : ConfigMsg) : (sendConfig src x s).port k = s.port k := rfl
@[simp] theorem queue_sendConfig (k : QueueId) (src : Source) (x : ConfigMsg) : (sendConfig src x s).queue k = s.queue k := rfl
@[simp] theorem sendConfig_links_toPool (src : Source) (x : ConfigMsg) :
    (sendConfig src x s).links.toPool = s.links.toPool := rfl
@[simp] theorem sendConfig_links_toQueue (src : Source) (x : ConfigMsg) :
    (sendConfig src x s).links.toQueue = s.links.toQueue := rfl
@[simp] theorem sendConfig_links_toLease (src : Source) (x : ConfigMsg) :
    (sendConfig src x s).links.toLease = s.links.toLease := rfl
@[simp] theorem sendConfig_links_toNotify (src : Source) (x : ConfigMsg) :
    (sendConfig src x s).links.toNotify = s.links.toNotify := rfl
@[simp] theorem sendConfig_links_toConfig (src : Source) (x : ConfigMsg) :
    (sendConfig src x s).links.toConfig = s.links.toConfig.push src x := rfl
@[simp] theorem sendConfig_links_answers (src : Source) (x : ConfigMsg) :
    (sendConfig src x s).links.answers = s.links.answers := rfl
@[simp] theorem sendConfig_links_cleanups (src : Source) (x : ConfigMsg) :
    (sendConfig src x s).links.cleanups = s.links.cleanups := rfl
@[simp] theorem sendConfig_links_enabled (src : Source) (x : ConfigMsg) :
    (sendConfig src x s).links.enabled = s.links.enabled := rfl
@[simp] theorem sendConfig_links_attachReports (src : Source) (x : ConfigMsg) :
    (sendConfig src x s).links.attachReports = s.links.attachReports := rfl
@[simp] theorem sendConfig_links_settings (src : Source) (x : ConfigMsg) :
    (sendConfig src x s).links.settings = s.links.settings := rfl
@[simp] theorem sendConfig_links_queries (src : Source) (x : ConfigMsg) :
    (sendConfig src x s).links.queries = s.links.queries := rfl

@[simp] theorem postNote_pool (src : Source) (p : Port) (n : Note) : (postNote src p n s).pool = s.pool := rfl
@[simp] theorem postNote_queues (src : Source) (p : Port) (n : Note) : (postNote src p n s).queues = s.queues := rfl
@[simp] theorem postNote_engine (src : Source) (p : Port) (n : Note) : (postNote src p n s).engine = s.engine := rfl
@[simp] theorem postNote_leases (src : Source) (p : Port) (n : Note) : (postNote src p n s).leases = s.leases := rfl
@[simp] theorem postNote_notify (src : Source) (p : Port) (n : Note) : (postNote src p n s).notify = s.notify := rfl
@[simp] theorem postNote_config (src : Source) (p : Port) (n : Note) : (postNote src p n s).config = s.config := rfl
@[simp] theorem postNote_ports (src : Source) (p : Port) (n : Note) : (postNote src p n s).ports = s.ports := rfl
@[simp] theorem postNote_resetLow (src : Source) (p : Port) (n : Note) : (postNote src p n s).resetLow = s.resetLow := rfl
@[simp] theorem postNote_pending (src : Source) (p : Port) (n : Note) : (postNote src p n s).pending = s.pending := rfl
@[simp] theorem port_postNote (k : Port) (src : Source) (p : Port) (n : Note) : (postNote src p n s).port k = s.port k := rfl
@[simp] theorem queue_postNote (k : QueueId) (src : Source) (p : Port) (n : Note) : (postNote src p n s).queue k = s.queue k := rfl
@[simp] theorem postNote_links_toPool (src : Source) (p : Port) (n : Note) :
    (postNote src p n s).links.toPool = s.links.toPool := rfl
@[simp] theorem postNote_links_toQueue (src : Source) (p : Port) (n : Note) :
    (postNote src p n s).links.toQueue = s.links.toQueue := rfl
@[simp] theorem postNote_links_toLease (src : Source) (p : Port) (n : Note) :
    (postNote src p n s).links.toLease = s.links.toLease := rfl
@[simp] theorem postNote_links_toNotify (src : Source) (p : Port) (n : Note) :
    (postNote src p n s).links.toNotify = s.links.toNotify.push src (.post p n) := rfl
@[simp] theorem postNote_links_toConfig (src : Source) (p : Port) (n : Note) :
    (postNote src p n s).links.toConfig = s.links.toConfig := rfl
@[simp] theorem postNote_links_answers (src : Source) (p : Port) (n : Note) :
    (postNote src p n s).links.answers = s.links.answers := rfl
@[simp] theorem postNote_links_cleanups (src : Source) (p : Port) (n : Note) :
    (postNote src p n s).links.cleanups = s.links.cleanups := rfl
@[simp] theorem postNote_links_enabled (src : Source) (p : Port) (n : Note) :
    (postNote src p n s).links.enabled = s.links.enabled := rfl
@[simp] theorem postNote_links_attachReports (src : Source) (p : Port) (n : Note) :
    (postNote src p n s).links.attachReports = s.links.attachReports := rfl
@[simp] theorem postNote_links_settings (src : Source) (p : Port) (n : Note) :
    (postNote src p n s).links.settings = s.links.settings := rfl
@[simp] theorem postNote_links_queries (src : Source) (p : Port) (n : Note) :
    (postNote src p n s).links.queries = s.links.queries := rfl

@[simp] theorem answer_pool (p : Port) (x : Answer) : (answer p x s).pool = s.pool := rfl
@[simp] theorem answer_queues (p : Port) (x : Answer) : (answer p x s).queues = s.queues := rfl
@[simp] theorem answer_engine (p : Port) (x : Answer) : (answer p x s).engine = s.engine := rfl
@[simp] theorem answer_leases (p : Port) (x : Answer) : (answer p x s).leases = s.leases := rfl
@[simp] theorem answer_notify (p : Port) (x : Answer) : (answer p x s).notify = s.notify := rfl
@[simp] theorem answer_config (p : Port) (x : Answer) : (answer p x s).config = s.config := rfl
@[simp] theorem answer_ports (p : Port) (x : Answer) : (answer p x s).ports = s.ports := rfl
@[simp] theorem answer_resetLow (p : Port) (x : Answer) : (answer p x s).resetLow = s.resetLow := rfl
@[simp] theorem answer_pending (p : Port) (x : Answer) : (answer p x s).pending = s.pending := rfl
@[simp] theorem port_answer (k : Port) (p : Port) (x : Answer) : (answer p x s).port k = s.port k := rfl
@[simp] theorem queue_answer (k : QueueId) (p : Port) (x : Answer) : (answer p x s).queue k = s.queue k := rfl
@[simp] theorem answer_links_toPool (p : Port) (x : Answer) : (answer p x s).links.toPool = s.links.toPool := rfl
@[simp] theorem answer_links_toQueue (p : Port) (x : Answer) : (answer p x s).links.toQueue = s.links.toQueue := rfl
@[simp] theorem answer_links_toLease (p : Port) (x : Answer) : (answer p x s).links.toLease = s.links.toLease := rfl
@[simp] theorem answer_links_toNotify (p : Port) (x : Answer) :
    (answer p x s).links.toNotify = s.links.toNotify := rfl
@[simp] theorem answer_links_toConfig (p : Port) (x : Answer) :
    (answer p x s).links.toConfig = s.links.toConfig := rfl
@[simp] theorem answer_links_answers (p : Port) (x : Answer) :
    (answer p x s).links.answers = upd s.links.answers p (sel s.links.answers p ++ [x]) := rfl
@[simp] theorem answer_links_cleanups (p : Port) (x : Answer) :
    (answer p x s).links.cleanups = s.links.cleanups := rfl
@[simp] theorem answer_links_enabled (p : Port) (x : Answer) : (answer p x s).links.enabled = s.links.enabled := rfl
@[simp] theorem answer_links_attachReports (p : Port) (x : Answer) :
    (answer p x s).links.attachReports = s.links.attachReports := rfl
@[simp] theorem answer_links_settings (p : Port) (x : Answer) :
    (answer p x s).links.settings = s.links.settings := rfl
@[simp] theorem answer_links_queries (p : Port) (x : Answer) : (answer p x s).links.queries = s.links.queries := rfl

@[simp] theorem reply_pool (p : Port) (st : Status) (payload : List Byte) : (reply p st payload s).pool = s.pool := rfl
@[simp] theorem reply_queues (p : Port) (st : Status) (payload : List Byte) : (reply p st payload s).queues = s.queues := rfl
@[simp] theorem reply_engine (p : Port) (st : Status) (payload : List Byte) : (reply p st payload s).engine = s.engine := rfl
@[simp] theorem reply_leases (p : Port) (st : Status) (payload : List Byte) : (reply p st payload s).leases = s.leases := rfl
@[simp] theorem reply_notify (p : Port) (st : Status) (payload : List Byte) : (reply p st payload s).notify = s.notify := rfl
@[simp] theorem reply_config (p : Port) (st : Status) (payload : List Byte) : (reply p st payload s).config = s.config := rfl
@[simp] theorem reply_ports (p : Port) (st : Status) (payload : List Byte) : (reply p st payload s).ports = s.ports := rfl
@[simp] theorem reply_resetLow (p : Port) (st : Status) (payload : List Byte) : (reply p st payload s).resetLow = s.resetLow := rfl
@[simp] theorem reply_pending (p : Port) (st : Status) (payload : List Byte) : (reply p st payload s).pending = s.pending := rfl
@[simp] theorem port_reply (k : Port) (p : Port) (st : Status) (payload : List Byte) : (reply p st payload s).port k = s.port k := rfl
@[simp] theorem queue_reply (k : QueueId) (p : Port) (st : Status) (payload : List Byte) : (reply p st payload s).queue k = s.queue k := rfl
@[simp] theorem reply_links_toPool (p : Port) (st : Status) (payload : List Byte) :
    (reply p st payload s).links.toPool = s.links.toPool := rfl
@[simp] theorem reply_links_toQueue (p : Port) (st : Status) (payload : List Byte) :
    (reply p st payload s).links.toQueue = s.links.toQueue := rfl
@[simp] theorem reply_links_toLease (p : Port) (st : Status) (payload : List Byte) :
    (reply p st payload s).links.toLease = s.links.toLease := rfl
@[simp] theorem reply_links_toNotify (p : Port) (st : Status) (payload : List Byte) :
    (reply p st payload s).links.toNotify = s.links.toNotify := rfl
@[simp] theorem reply_links_toConfig (p : Port) (st : Status) (payload : List Byte) :
    (reply p st payload s).links.toConfig = s.links.toConfig := rfl
@[simp] theorem reply_links_answers (p : Port) (st : Status) (payload : List Byte) :
    (reply p st payload s).links.answers = upd s.links.answers p (sel s.links.answers p ++ [.final st payload]) := rfl
@[simp] theorem reply_links_cleanups (p : Port) (st : Status) (payload : List Byte) :
    (reply p st payload s).links.cleanups = s.links.cleanups := rfl
@[simp] theorem reply_links_enabled (p : Port) (st : Status) (payload : List Byte) :
    (reply p st payload s).links.enabled = s.links.enabled := rfl
@[simp] theorem reply_links_attachReports (p : Port) (st : Status) (payload : List Byte) :
    (reply p st payload s).links.attachReports = s.links.attachReports := rfl
@[simp] theorem reply_links_settings (p : Port) (st : Status) (payload : List Byte) :
    (reply p st payload s).links.settings = s.links.settings := rfl
@[simp] theorem reply_links_queries (p : Port) (st : Status) (payload : List Byte) :
    (reply p st payload s).links.queries = s.links.queries := rfl

@[simp] theorem reportCleanup_pool (p : Port) (b : Block) : (reportCleanup p b s).pool = s.pool := rfl
@[simp] theorem reportCleanup_queues (p : Port) (b : Block) : (reportCleanup p b s).queues = s.queues := rfl
@[simp] theorem reportCleanup_engine (p : Port) (b : Block) : (reportCleanup p b s).engine = s.engine := rfl
@[simp] theorem reportCleanup_leases (p : Port) (b : Block) : (reportCleanup p b s).leases = s.leases := rfl
@[simp] theorem reportCleanup_notify (p : Port) (b : Block) : (reportCleanup p b s).notify = s.notify := rfl
@[simp] theorem reportCleanup_config (p : Port) (b : Block) : (reportCleanup p b s).config = s.config := rfl
@[simp] theorem reportCleanup_ports (p : Port) (b : Block) : (reportCleanup p b s).ports = s.ports := rfl
@[simp] theorem reportCleanup_resetLow (p : Port) (b : Block) : (reportCleanup p b s).resetLow = s.resetLow := rfl
@[simp] theorem reportCleanup_pending (p : Port) (b : Block) : (reportCleanup p b s).pending = s.pending := rfl
@[simp] theorem port_reportCleanup (k : Port) (p : Port) (b : Block) : (reportCleanup p b s).port k = s.port k := rfl
@[simp] theorem queue_reportCleanup (k : QueueId) (p : Port) (b : Block) : (reportCleanup p b s).queue k = s.queue k := rfl
@[simp] theorem reportCleanup_links_toPool (p : Port) (b : Block) :
    (reportCleanup p b s).links.toPool = s.links.toPool := rfl
@[simp] theorem reportCleanup_links_toQueue (p : Port) (b : Block) :
    (reportCleanup p b s).links.toQueue = s.links.toQueue := rfl
@[simp] theorem reportCleanup_links_toLease (p : Port) (b : Block) :
    (reportCleanup p b s).links.toLease = s.links.toLease := rfl
@[simp] theorem reportCleanup_links_toNotify (p : Port) (b : Block) :
    (reportCleanup p b s).links.toNotify = s.links.toNotify := rfl
@[simp] theorem reportCleanup_links_toConfig (p : Port) (b : Block) :
    (reportCleanup p b s).links.toConfig = s.links.toConfig := rfl
@[simp] theorem reportCleanup_links_answers (p : Port) (b : Block) :
    (reportCleanup p b s).links.answers = s.links.answers := rfl
@[simp] theorem reportCleanup_links_cleanups (p : Port) (b : Block) :
    (reportCleanup p b s).links.cleanups = upd s.links.cleanups p (sel s.links.cleanups p ++ [b]) := rfl
@[simp] theorem reportCleanup_links_enabled (p : Port) (b : Block) :
    (reportCleanup p b s).links.enabled = s.links.enabled := rfl
@[simp] theorem reportCleanup_links_attachReports (p : Port) (b : Block) :
    (reportCleanup p b s).links.attachReports = s.links.attachReports := rfl
@[simp] theorem reportCleanup_links_settings (p : Port) (b : Block) :
    (reportCleanup p b s).links.settings = s.links.settings := rfl
@[simp] theorem reportCleanup_links_queries (p : Port) (b : Block) :
    (reportCleanup p b s).links.queries = s.links.queries := rfl

@[simp] theorem reportAttach_pool (p : Port) (x : AttachReport) : (reportAttach p x s).pool = s.pool := rfl
@[simp] theorem reportAttach_queues (p : Port) (x : AttachReport) : (reportAttach p x s).queues = s.queues := rfl
@[simp] theorem reportAttach_engine (p : Port) (x : AttachReport) : (reportAttach p x s).engine = s.engine := rfl
@[simp] theorem reportAttach_leases (p : Port) (x : AttachReport) : (reportAttach p x s).leases = s.leases := rfl
@[simp] theorem reportAttach_notify (p : Port) (x : AttachReport) : (reportAttach p x s).notify = s.notify := rfl
@[simp] theorem reportAttach_config (p : Port) (x : AttachReport) : (reportAttach p x s).config = s.config := rfl
@[simp] theorem reportAttach_ports (p : Port) (x : AttachReport) : (reportAttach p x s).ports = s.ports := rfl
@[simp] theorem reportAttach_resetLow (p : Port) (x : AttachReport) : (reportAttach p x s).resetLow = s.resetLow := rfl
@[simp] theorem reportAttach_pending (p : Port) (x : AttachReport) : (reportAttach p x s).pending = s.pending := rfl
@[simp] theorem port_reportAttach (k : Port) (p : Port) (x : AttachReport) : (reportAttach p x s).port k = s.port k := rfl
@[simp] theorem queue_reportAttach (k : QueueId) (p : Port) (x : AttachReport) : (reportAttach p x s).queue k = s.queue k := rfl
@[simp] theorem reportAttach_links_toPool (p : Port) (x : AttachReport) :
    (reportAttach p x s).links.toPool = s.links.toPool := rfl
@[simp] theorem reportAttach_links_toQueue (p : Port) (x : AttachReport) :
    (reportAttach p x s).links.toQueue = s.links.toQueue := rfl
@[simp] theorem reportAttach_links_toLease (p : Port) (x : AttachReport) :
    (reportAttach p x s).links.toLease = s.links.toLease := rfl
@[simp] theorem reportAttach_links_toNotify (p : Port) (x : AttachReport) :
    (reportAttach p x s).links.toNotify = s.links.toNotify := rfl
@[simp] theorem reportAttach_links_toConfig (p : Port) (x : AttachReport) :
    (reportAttach p x s).links.toConfig = s.links.toConfig := rfl
@[simp] theorem reportAttach_links_answers (p : Port) (x : AttachReport) :
    (reportAttach p x s).links.answers = s.links.answers := rfl
@[simp] theorem reportAttach_links_cleanups (p : Port) (x : AttachReport) :
    (reportAttach p x s).links.cleanups = s.links.cleanups := rfl
@[simp] theorem reportAttach_links_enabled (p : Port) (x : AttachReport) :
    (reportAttach p x s).links.enabled = s.links.enabled := rfl
@[simp] theorem reportAttach_links_attachReports (p : Port) (x : AttachReport) :
    (reportAttach p x s).links.attachReports = upd s.links.attachReports p (sel s.links.attachReports p ++ [x]) := rfl
@[simp] theorem reportAttach_links_settings (p : Port) (x : AttachReport) :
    (reportAttach p x s).links.settings = s.links.settings := rfl
@[simp] theorem reportAttach_links_queries (p : Port) (x : AttachReport) :
    (reportAttach p x s).links.queries = s.links.queries := rfl

@[simp] theorem restPool_pool (src : Source) (l : List PoolMsg) : (restPool src l s).pool = s.pool := rfl
@[simp] theorem restPool_queues (src : Source) (l : List PoolMsg) : (restPool src l s).queues = s.queues := rfl
@[simp] theorem restPool_engine (src : Source) (l : List PoolMsg) : (restPool src l s).engine = s.engine := rfl
@[simp] theorem restPool_leases (src : Source) (l : List PoolMsg) : (restPool src l s).leases = s.leases := rfl
@[simp] theorem restPool_notify (src : Source) (l : List PoolMsg) : (restPool src l s).notify = s.notify := rfl
@[simp] theorem restPool_config (src : Source) (l : List PoolMsg) : (restPool src l s).config = s.config := rfl
@[simp] theorem restPool_ports (src : Source) (l : List PoolMsg) : (restPool src l s).ports = s.ports := rfl
@[simp] theorem restPool_resetLow (src : Source) (l : List PoolMsg) : (restPool src l s).resetLow = s.resetLow := rfl
@[simp] theorem restPool_pending (src : Source) (l : List PoolMsg) : (restPool src l s).pending = s.pending := rfl
@[simp] theorem port_restPool (k : Port) (src : Source) (l : List PoolMsg) : (restPool src l s).port k = s.port k := rfl
@[simp] theorem queue_restPool (k : QueueId) (src : Source) (l : List PoolMsg) : (restPool src l s).queue k = s.queue k := rfl
@[simp] theorem restPool_links_toPool (src : Source) (l : List PoolMsg) :
    (restPool src l s).links.toPool = s.links.toPool.put src l := rfl
@[simp] theorem restPool_links_toQueue (src : Source) (l : List PoolMsg) :
    (restPool src l s).links.toQueue = s.links.toQueue := rfl
@[simp] theorem restPool_links_toLease (src : Source) (l : List PoolMsg) :
    (restPool src l s).links.toLease = s.links.toLease := rfl
@[simp] theorem restPool_links_toNotify (src : Source) (l : List PoolMsg) :
    (restPool src l s).links.toNotify = s.links.toNotify := rfl
@[simp] theorem restPool_links_toConfig (src : Source) (l : List PoolMsg) :
    (restPool src l s).links.toConfig = s.links.toConfig := rfl
@[simp] theorem restPool_links_answers (src : Source) (l : List PoolMsg) :
    (restPool src l s).links.answers = s.links.answers := rfl
@[simp] theorem restPool_links_cleanups (src : Source) (l : List PoolMsg) :
    (restPool src l s).links.cleanups = s.links.cleanups := rfl
@[simp] theorem restPool_links_enabled (src : Source) (l : List PoolMsg) :
    (restPool src l s).links.enabled = s.links.enabled := rfl
@[simp] theorem restPool_links_attachReports (src : Source) (l : List PoolMsg) :
    (restPool src l s).links.attachReports = s.links.attachReports := rfl
@[simp] theorem restPool_links_settings (src : Source) (l : List PoolMsg) :
    (restPool src l s).links.settings = s.links.settings := rfl
@[simp] theorem restPool_links_queries (src : Source) (l : List PoolMsg) :
    (restPool src l s).links.queries = s.links.queries := rfl

@[simp] theorem restQueue_pool (src : Source) (l : List QueueMsg) : (restQueue src l s).pool = s.pool := rfl
@[simp] theorem restQueue_queues (src : Source) (l : List QueueMsg) : (restQueue src l s).queues = s.queues := rfl
@[simp] theorem restQueue_engine (src : Source) (l : List QueueMsg) : (restQueue src l s).engine = s.engine := rfl
@[simp] theorem restQueue_leases (src : Source) (l : List QueueMsg) : (restQueue src l s).leases = s.leases := rfl
@[simp] theorem restQueue_notify (src : Source) (l : List QueueMsg) : (restQueue src l s).notify = s.notify := rfl
@[simp] theorem restQueue_config (src : Source) (l : List QueueMsg) : (restQueue src l s).config = s.config := rfl
@[simp] theorem restQueue_ports (src : Source) (l : List QueueMsg) : (restQueue src l s).ports = s.ports := rfl
@[simp] theorem restQueue_resetLow (src : Source) (l : List QueueMsg) : (restQueue src l s).resetLow = s.resetLow := rfl
@[simp] theorem restQueue_pending (src : Source) (l : List QueueMsg) : (restQueue src l s).pending = s.pending := rfl
@[simp] theorem port_restQueue (k : Port) (src : Source) (l : List QueueMsg) : (restQueue src l s).port k = s.port k := rfl
@[simp] theorem queue_restQueue (k : QueueId) (src : Source) (l : List QueueMsg) : (restQueue src l s).queue k = s.queue k := rfl
@[simp] theorem restQueue_links_toPool (src : Source) (l : List QueueMsg) :
    (restQueue src l s).links.toPool = s.links.toPool := rfl
@[simp] theorem restQueue_links_toQueue (src : Source) (l : List QueueMsg) :
    (restQueue src l s).links.toQueue = s.links.toQueue.put src l := rfl
@[simp] theorem restQueue_links_toLease (src : Source) (l : List QueueMsg) :
    (restQueue src l s).links.toLease = s.links.toLease := rfl
@[simp] theorem restQueue_links_toNotify (src : Source) (l : List QueueMsg) :
    (restQueue src l s).links.toNotify = s.links.toNotify := rfl
@[simp] theorem restQueue_links_toConfig (src : Source) (l : List QueueMsg) :
    (restQueue src l s).links.toConfig = s.links.toConfig := rfl
@[simp] theorem restQueue_links_answers (src : Source) (l : List QueueMsg) :
    (restQueue src l s).links.answers = s.links.answers := rfl
@[simp] theorem restQueue_links_cleanups (src : Source) (l : List QueueMsg) :
    (restQueue src l s).links.cleanups = s.links.cleanups := rfl
@[simp] theorem restQueue_links_enabled (src : Source) (l : List QueueMsg) :
    (restQueue src l s).links.enabled = s.links.enabled := rfl
@[simp] theorem restQueue_links_attachReports (src : Source) (l : List QueueMsg) :
    (restQueue src l s).links.attachReports = s.links.attachReports := rfl
@[simp] theorem restQueue_links_settings (src : Source) (l : List QueueMsg) :
    (restQueue src l s).links.settings = s.links.settings := rfl
@[simp] theorem restQueue_links_queries (src : Source) (l : List QueueMsg) :
    (restQueue src l s).links.queries = s.links.queries := rfl

@[simp] theorem restLease_pool (src : Source) (l : List LeaseMsg) : (restLease src l s).pool = s.pool := rfl
@[simp] theorem restLease_queues (src : Source) (l : List LeaseMsg) : (restLease src l s).queues = s.queues := rfl
@[simp] theorem restLease_engine (src : Source) (l : List LeaseMsg) : (restLease src l s).engine = s.engine := rfl
@[simp] theorem restLease_leases (src : Source) (l : List LeaseMsg) : (restLease src l s).leases = s.leases := rfl
@[simp] theorem restLease_notify (src : Source) (l : List LeaseMsg) : (restLease src l s).notify = s.notify := rfl
@[simp] theorem restLease_config (src : Source) (l : List LeaseMsg) : (restLease src l s).config = s.config := rfl
@[simp] theorem restLease_ports (src : Source) (l : List LeaseMsg) : (restLease src l s).ports = s.ports := rfl
@[simp] theorem restLease_resetLow (src : Source) (l : List LeaseMsg) : (restLease src l s).resetLow = s.resetLow := rfl
@[simp] theorem restLease_pending (src : Source) (l : List LeaseMsg) : (restLease src l s).pending = s.pending := rfl
@[simp] theorem port_restLease (k : Port) (src : Source) (l : List LeaseMsg) : (restLease src l s).port k = s.port k := rfl
@[simp] theorem queue_restLease (k : QueueId) (src : Source) (l : List LeaseMsg) : (restLease src l s).queue k = s.queue k := rfl
@[simp] theorem restLease_links_toPool (src : Source) (l : List LeaseMsg) :
    (restLease src l s).links.toPool = s.links.toPool := rfl
@[simp] theorem restLease_links_toQueue (src : Source) (l : List LeaseMsg) :
    (restLease src l s).links.toQueue = s.links.toQueue := rfl
@[simp] theorem restLease_links_toLease (src : Source) (l : List LeaseMsg) :
    (restLease src l s).links.toLease = s.links.toLease.put src l := rfl
@[simp] theorem restLease_links_toNotify (src : Source) (l : List LeaseMsg) :
    (restLease src l s).links.toNotify = s.links.toNotify := rfl
@[simp] theorem restLease_links_toConfig (src : Source) (l : List LeaseMsg) :
    (restLease src l s).links.toConfig = s.links.toConfig := rfl
@[simp] theorem restLease_links_answers (src : Source) (l : List LeaseMsg) :
    (restLease src l s).links.answers = s.links.answers := rfl
@[simp] theorem restLease_links_cleanups (src : Source) (l : List LeaseMsg) :
    (restLease src l s).links.cleanups = s.links.cleanups := rfl
@[simp] theorem restLease_links_enabled (src : Source) (l : List LeaseMsg) :
    (restLease src l s).links.enabled = s.links.enabled := rfl
@[simp] theorem restLease_links_attachReports (src : Source) (l : List LeaseMsg) :
    (restLease src l s).links.attachReports = s.links.attachReports := rfl
@[simp] theorem restLease_links_settings (src : Source) (l : List LeaseMsg) :
    (restLease src l s).links.settings = s.links.settings := rfl
@[simp] theorem restLease_links_queries (src : Source) (l : List LeaseMsg) :
    (restLease src l s).links.queries = s.links.queries := rfl

@[simp] theorem restNotify_pool (src : Source) (l : List NotifyMsg) : (restNotify src l s).pool = s.pool := rfl
@[simp] theorem restNotify_queues (src : Source) (l : List NotifyMsg) : (restNotify src l s).queues = s.queues := rfl
@[simp] theorem restNotify_engine (src : Source) (l : List NotifyMsg) : (restNotify src l s).engine = s.engine := rfl
@[simp] theorem restNotify_leases (src : Source) (l : List NotifyMsg) : (restNotify src l s).leases = s.leases := rfl
@[simp] theorem restNotify_notify (src : Source) (l : List NotifyMsg) : (restNotify src l s).notify = s.notify := rfl
@[simp] theorem restNotify_config (src : Source) (l : List NotifyMsg) : (restNotify src l s).config = s.config := rfl
@[simp] theorem restNotify_ports (src : Source) (l : List NotifyMsg) : (restNotify src l s).ports = s.ports := rfl
@[simp] theorem restNotify_resetLow (src : Source) (l : List NotifyMsg) : (restNotify src l s).resetLow = s.resetLow := rfl
@[simp] theorem restNotify_pending (src : Source) (l : List NotifyMsg) : (restNotify src l s).pending = s.pending := rfl
@[simp] theorem port_restNotify (k : Port) (src : Source) (l : List NotifyMsg) : (restNotify src l s).port k = s.port k := rfl
@[simp] theorem queue_restNotify (k : QueueId) (src : Source) (l : List NotifyMsg) : (restNotify src l s).queue k = s.queue k := rfl
@[simp] theorem restNotify_links_toPool (src : Source) (l : List NotifyMsg) :
    (restNotify src l s).links.toPool = s.links.toPool := rfl
@[simp] theorem restNotify_links_toQueue (src : Source) (l : List NotifyMsg) :
    (restNotify src l s).links.toQueue = s.links.toQueue := rfl
@[simp] theorem restNotify_links_toLease (src : Source) (l : List NotifyMsg) :
    (restNotify src l s).links.toLease = s.links.toLease := rfl
@[simp] theorem restNotify_links_toNotify (src : Source) (l : List NotifyMsg) :
    (restNotify src l s).links.toNotify = s.links.toNotify.put src l := rfl
@[simp] theorem restNotify_links_toConfig (src : Source) (l : List NotifyMsg) :
    (restNotify src l s).links.toConfig = s.links.toConfig := rfl
@[simp] theorem restNotify_links_answers (src : Source) (l : List NotifyMsg) :
    (restNotify src l s).links.answers = s.links.answers := rfl
@[simp] theorem restNotify_links_cleanups (src : Source) (l : List NotifyMsg) :
    (restNotify src l s).links.cleanups = s.links.cleanups := rfl
@[simp] theorem restNotify_links_enabled (src : Source) (l : List NotifyMsg) :
    (restNotify src l s).links.enabled = s.links.enabled := rfl
@[simp] theorem restNotify_links_attachReports (src : Source) (l : List NotifyMsg) :
    (restNotify src l s).links.attachReports = s.links.attachReports := rfl
@[simp] theorem restNotify_links_settings (src : Source) (l : List NotifyMsg) :
    (restNotify src l s).links.settings = s.links.settings := rfl
@[simp] theorem restNotify_links_queries (src : Source) (l : List NotifyMsg) :
    (restNotify src l s).links.queries = s.links.queries := rfl

@[simp] theorem restConfig_pool (src : Source) (l : List ConfigMsg) : (restConfig src l s).pool = s.pool := rfl
@[simp] theorem restConfig_queues (src : Source) (l : List ConfigMsg) : (restConfig src l s).queues = s.queues := rfl
@[simp] theorem restConfig_engine (src : Source) (l : List ConfigMsg) : (restConfig src l s).engine = s.engine := rfl
@[simp] theorem restConfig_leases (src : Source) (l : List ConfigMsg) : (restConfig src l s).leases = s.leases := rfl
@[simp] theorem restConfig_notify (src : Source) (l : List ConfigMsg) : (restConfig src l s).notify = s.notify := rfl
@[simp] theorem restConfig_config (src : Source) (l : List ConfigMsg) : (restConfig src l s).config = s.config := rfl
@[simp] theorem restConfig_ports (src : Source) (l : List ConfigMsg) : (restConfig src l s).ports = s.ports := rfl
@[simp] theorem restConfig_resetLow (src : Source) (l : List ConfigMsg) : (restConfig src l s).resetLow = s.resetLow := rfl
@[simp] theorem restConfig_pending (src : Source) (l : List ConfigMsg) : (restConfig src l s).pending = s.pending := rfl
@[simp] theorem port_restConfig (k : Port) (src : Source) (l : List ConfigMsg) : (restConfig src l s).port k = s.port k := rfl
@[simp] theorem queue_restConfig (k : QueueId) (src : Source) (l : List ConfigMsg) : (restConfig src l s).queue k = s.queue k := rfl
@[simp] theorem restConfig_links_toPool (src : Source) (l : List ConfigMsg) :
    (restConfig src l s).links.toPool = s.links.toPool := rfl
@[simp] theorem restConfig_links_toQueue (src : Source) (l : List ConfigMsg) :
    (restConfig src l s).links.toQueue = s.links.toQueue := rfl
@[simp] theorem restConfig_links_toLease (src : Source) (l : List ConfigMsg) :
    (restConfig src l s).links.toLease = s.links.toLease := rfl
@[simp] theorem restConfig_links_toNotify (src : Source) (l : List ConfigMsg) :
    (restConfig src l s).links.toNotify = s.links.toNotify := rfl
@[simp] theorem restConfig_links_toConfig (src : Source) (l : List ConfigMsg) :
    (restConfig src l s).links.toConfig = s.links.toConfig.put src l := rfl
@[simp] theorem restConfig_links_answers (src : Source) (l : List ConfigMsg) :
    (restConfig src l s).links.answers = s.links.answers := rfl
@[simp] theorem restConfig_links_cleanups (src : Source) (l : List ConfigMsg) :
    (restConfig src l s).links.cleanups = s.links.cleanups := rfl
@[simp] theorem restConfig_links_enabled (src : Source) (l : List ConfigMsg) :
    (restConfig src l s).links.enabled = s.links.enabled := rfl
@[simp] theorem restConfig_links_attachReports (src : Source) (l : List ConfigMsg) :
    (restConfig src l s).links.attachReports = s.links.attachReports := rfl
@[simp] theorem restConfig_links_settings (src : Source) (l : List ConfigMsg) :
    (restConfig src l s).links.settings = s.links.settings := rfl
@[simp] theorem restConfig_links_queries (src : Source) (l : List ConfigMsg) :
    (restConfig src l s).links.queries = s.links.queries := rfl

/-! ### Posts to several ports -/

/-- The posts stand behind what the sender sent the notification unit before, in the order of the ports. -/
theorem postAll_eq (src : Source) (ps : List Port) (n : Note) :
    postAll src ps n s = s.setLinks { s.links with
      toNotify := s.links.toNotify.put src (s.links.toNotify.sent src ++ ps.map fun p => .post p n) } := by
  induction ps generalizing s with
  | nil => simp [postAll]; rfl
  | cons p ps ih =>
    show postAll src ps n (postNote src p n s) = _
    rw [ih]
    simp [State.setLinks, postNote, sendNotify, Inbox.push]

@[simp] theorem postAll_pool (src : Source) (ps : List Port) (n : Note) : (postAll src ps n s).pool = s.pool := by
  rw [postAll_eq]; rfl
@[simp] theorem postAll_queues (src : Source) (ps : List Port) (n : Note) : (postAll src ps n s).queues = s.queues := by
  rw [postAll_eq]; rfl
@[simp] theorem postAll_engine (src : Source) (ps : List Port) (n : Note) : (postAll src ps n s).engine = s.engine := by
  rw [postAll_eq]; rfl
@[simp] theorem postAll_leases (src : Source) (ps : List Port) (n : Note) : (postAll src ps n s).leases = s.leases := by
  rw [postAll_eq]; rfl
@[simp] theorem postAll_notify (src : Source) (ps : List Port) (n : Note) : (postAll src ps n s).notify = s.notify := by
  rw [postAll_eq]; rfl
@[simp] theorem postAll_config (src : Source) (ps : List Port) (n : Note) : (postAll src ps n s).config = s.config := by
  rw [postAll_eq]; rfl
@[simp] theorem postAll_ports (src : Source) (ps : List Port) (n : Note) : (postAll src ps n s).ports = s.ports := by
  rw [postAll_eq]; rfl
@[simp] theorem postAll_resetLow (src : Source) (ps : List Port) (n : Note) : (postAll src ps n s).resetLow = s.resetLow := by
  rw [postAll_eq]; rfl
@[simp] theorem postAll_pending (src : Source) (ps : List Port) (n : Note) : (postAll src ps n s).pending = s.pending := by
  rw [postAll_eq]; rfl
@[simp] theorem port_postAll (k : Port) (src : Source) (ps : List Port) (n : Note) :
    (postAll src ps n s).port k = s.port k := by
  rw [postAll_eq]; rfl
@[simp] theorem queue_postAll (k : QueueId) (src : Source) (ps : List Port) (n : Note) :
    (postAll src ps n s).queue k = s.queue k := by
  rw [postAll_eq]; rfl

end Sys2Proof.Machine
end

