-- ==== Sys2Proof/Laws/Memory.lean ====
section
/-! SUPPORT. The cell store: every operation keeps the canonical form, and what a write leaves to read. -/

namespace Sys2Proof.Machine

theorem cellsWf_cons (c : Host.Cell) (m : List Host.Cell) :
    cellsWf (c :: m) = true ↔ c.2 ≠ Config.blankByte ∧ (∀ d ∈ m, c.1 < d.1) ∧ cellsWf m = true := by
  obtain ⟨a, b⟩ := c
  simp [cellsWf, and_assoc]

/-- Every entry after a write is the entry written or an entry of before. -/
theorem mem_writeCell {a : Nat} {b : Byte} {m : List Host.Cell} {c : Host.Cell} (h : c ∈ writeCell a b m) :
    c = (a, b) ∨ c ∈ m := by
  induction m with
  | nil => simp only [writeCell] at h; split at h <;> simp_all
  | cons d m ih =>
    simp only [writeCell] at h
    split at h
    · rcases List.mem_cons.1 h with rfl | h
      · simp
      · rcases ih h with h | h <;> simp [h]
    · split at h <;> split at h <;> (simp_all; try tauto)

/-- A write keeps the canonical form. -/
theorem writeCell_wf (a : Nat) (b : Byte) {m : List Host.Cell} (h : cellsWf m = true) :
    cellsWf (writeCell a b m) = true := by
  induction m with
  | nil => simp only [writeCell]; split <;> simp_all [cellsWf]
  | cons c m ih =>
    obtain ⟨k, x⟩ := c
    obtain ⟨hx, hk, hm⟩ := (cellsWf_cons _ _).1 h
    simp only [writeCell]
    split
    next hlt =>
      refine (cellsWf_cons _ _).2 ⟨hx, fun d hd => ?_, ih hm⟩
      rcases mem_writeCell hd with rfl | hd
      · exact hlt
      · exact hk d hd
    next hge =>
      split
      next he =>
        subst he
        split
        · exact hm
        · exact (cellsWf_cons _ _).2 ⟨by assumption, hk, hm⟩
      next hne =>
        split
        · exact h
        · refine (cellsWf_cons _ _).2 ⟨by assumption, fun d hd => ?_, h⟩
          rcases List.mem_cons.1 hd with rfl | hd
          · show a < k; omega
          · have := hk d hd; show a < d.1; simp only at this; omega

/-- A read below every entry finds a byte that nothing has written. -/
theorem readCell_below {a : Nat} {m : List Host.Cell} (h : ∀ d ∈ m, a < d.1) : readCell a m = Config.blankByte := by
  induction m with
  | nil => rfl
  | cons c m ih =>
    have hc : a < c.1 := h c (by simp)
    have : ¬c.1 = a := by omega
    simp [readCell, this, ih fun d hd => h d (List.mem_cons_of_mem _ hd)]

/-- What one byte reads as after a write: the byte written at its address, and what it read as before elsewhere. -/
theorem readCell_writeCell (a k : Nat) (b : Byte) {m : List Host.Cell} (h : cellsWf m = true) :
    readCell k (writeCell a b m) = if k = a then b else readCell k m := by
  induction m with
  | nil =>
    by_cases hk : k = a
    · subst hk
      by_cases hb : b = Config.blankByte <;> simp [writeCell, readCell, hb]
    · have hk' : ¬a = k := fun e => hk e.symm
      by_cases hb : b = Config.blankByte <;> simp [writeCell, readCell, hb, hk, hk']
  | cons c m ih =>
    obtain ⟨j, x⟩ := c
    obtain ⟨hx, hj, hm⟩ := (cellsWf_cons _ _).1 h
    simp only at hj
    have below : ∀ i, i ≤ j → readCell i m = Config.blankByte := fun i hi =>
      readCell_below fun d hd => by have := hj d hd; omega
    simp only [writeCell]
    split
    next hlt =>
      by_cases hk : j = k
      · subst hk
        have : ¬j = a := by omega
        simp [readCell, this]
      · simp [readCell, hk, ih hm]
    next hge =>
      split
      next he =>
        subst he
        by_cases hk : k = j
        · subst hk; split <;> simp_all [readCell]
        · have hk' : ¬j = k := fun e => hk e.symm
          split <;> simp_all [readCell]
      next hne =>
        by_cases hk : k = a
        · subst hk
          split
          next hb => simp [readCell, hne, below k (by omega), hb]
          next => simp [readCell]
        · have hk' : ¬a = k := fun e => hk e.symm
          split
          · simp
          · simp [readCell, hk']

/-- Storing bytes keeps the canonical form. -/
theorem storeBytes_wf (chain : List CellId) (k : Nat) (bytes : List Byte) {m : List Host.Cell}
    (h : cellsWf m = true) : cellsWf (storeBytes chain k bytes m) = true := by
  induction bytes generalizing k m with
  | nil => exact h
  | cons b bytes ih =>
    simp only [storeBytes]
    refine ih _ ?_
    split
    · exact writeCell_wf _ _ h
    · exact h

/-- The cell store at reset is in canonical form. -/
theorem reset_cells_wf : cellsWf State.reset.pool.cells = true := rfl

end Sys2Proof.Machine
end

