-- ==== Sys2Proof/Laws/Operations.lean ====
section
/-! SUPPORT. One lemma for each shared operation of the port controllers and the lease manager that says all it does,
in the terms of Safety.lean; a later proof cites it and does not unfold the operation. -/

namespace Sys2Proof.Machine

/-! ### Port controllers -/

/-- What a frame that stands at a port tells of its controller. -/
theorem frameStands_iff {p : Port} {code : Byte} {f : Frame} {s : State} : frameStands p code f s = true ↔
    (s.port p).link = .request code ∧ (s.port p).engine = .receiving ∧ f.payload.length ≤ Config.payloadLimit := by
  simp [frameStands, and_assoc]

/-- A frame restarts the timer as `PortCtl.restarted` says, and changes nothing else. -/
theorem restartTimer_eq (p : Port) (s : State) :
    restartTimer p s = s.setPort p { s.port p with timer := (s.port p).restarted } := by
  simp only [restartTimer, PortCtl.restarted]
  by_cases h : (s.port p).session = .attached ∧ (s.port p).attaching = false
  · rw [if_pos (by simpa using h), if_pos h]
  · rw [if_neg (by simpa using h), if_neg h]
    exact (State.setPort_port s p).symm

/-- A response newly built leaves the controller as `PortCtl.built` says, and changes nothing else. -/
theorem respond_eq (p : Port) (code tag : Byte) (st : Status) (payload : List Byte) (s : State) :
    respond p code tag st payload s = s.setPort p ((s.port p).built (atn s.notify p) code tag st payload) := by
  simp only [respond, makeReady, State.port_setPort_same, State.setPort_setPort]; rfl

/-- The end of a good frame: answered from the cache, refused for want of a session, or carried out. -/
theorem takeFrame_eq {p : Port} {r : Req} {f : Frame} {s : State} (carry : State → State)
    (h : frameStands p r.code f s = true) :
    takeFrame p r f carry s = (match retryMatch p r.code f s with
      | some x => s.setPort p
          { (s.port p).ready (atn s.notify p) x with link := .none, timer := (s.port p).restarted }
      | none =>
        if (s.port p).session ≠ .attached ∧ ¬sessionless r then s.setPort p
          { (s.port p).built (atn s.notify p) r.code f.tag .noSession [] with
            link := .none, timer := (s.port p).restarted }
        else carry (s.setPort p { s.port p with link := .none, timer := (s.port p).restarted })) := by
  simp only [takeFrame, h, if_true, restartTimer_eq, makeReady, respond, State.setPort_setPort,
    State.port_setPort_same, State.setPort_notify]
  rfl

/-- The session end of an Attached port is `sessionEnded`. -/
theorem sessionEnd_eq {p : Port} {s : State} (cause : EndCause) (h : (s.port p).session = .attached) :
    sessionEnd p cause s = sessionEnded p cause (s.port p) s := by
  simp only [sessionEnd, h, if_true, sessionEnded, announceEnd]
  rfl

/-- A port in Receiving carries out no Attach. -/
theorem PortCtl.attaching_receiving {c : PortCtl} (h : c.engine = .receiving) : c.attaching = false := by
  simp [PortCtl.attaching, h]

/-! ### Leases -/

/-- In a list of distinct ids, a lease is found by its id. -/
theorem findLease_of_mem {ls : List Lease} (hn : (ls.map (·.id)).Nodup) {l : Lease} (hl : l ∈ ls) :
    findLease ls l.id = some l := by
  induction ls with
  | nil => cases hl
  | cons a ls ih =>
    simp only [List.map_cons, List.nodup_cons] at hn
    rcases List.mem_cons.1 hl with rfl | h
    · simp [findLease]
    · have : a.id ≠ l.id := fun e => hn.1 (e ▸ List.mem_map_of_mem (f := (·.id)) h)
      simpa [findLease, List.find?, this] using ih hn.2 h

/-- No lease is found by an id that none carries. -/
theorem findLease_none {ls : List Lease} {id : Nat} (h : ∀ l ∈ ls, l.id ≠ id) : findLease ls id = none := by
  simpa [findLease, List.find?_eq_none] using h

/-- The search for a free id stops at the first one it meets. -/
theorem freeIdFrom_spec (used : List Nat) (fuel c : Nat) (h : ∃ k, k < fuel ∧ nextId^[k] c ∉ used) :
    ∃ k, k < fuel ∧ freeIdFrom used fuel c = nextId^[k] c ∧ nextId^[k] c ∉ used ∧
      ∀ j, j < k → nextId^[j] c ∈ used := by
  induction fuel generalizing c with
  | zero => obtain ⟨k, hk, _⟩ := h; omega
  | succ fuel ih =>
    simp only [freeIdFrom]
    by_cases hc : c ∈ used
    · rw [if_pos hc]
      obtain ⟨k, hk, hku⟩ := h
      cases k with
      | zero => exact absurd hc hku
      | succ k =>
        obtain ⟨j, hj, h1, h2, h3⟩ := ih (nextId c) ⟨k, by omega, by simpa using hku⟩
        refine ⟨j + 1, by omega, by simpa using h1, by simpa using h2, ?_⟩
        intro i hi
        cases i with
        | zero => exact hc
        | succ i => simpa using h3 i (by omega)
    · rw [if_neg hc]; exact ⟨0, by omega, rfl, hc, by intro j hj; omega⟩

/-- The ids run through 1 to 255 and round again. -/
theorem nextId_iterate (c k : Nat) (h1 : 1 ≤ c) (h2 : c ≤ 255) : nextId^[k] c = (c - 1 + k) % 255 + 1 := by
  induction k with
  | zero => simp; omega
  | succ k ih => rw [Function.iterate_succ_apply', ih, nextId]; split <;> omega

end Sys2Proof.Machine
end

