-- ==== Sys2Proof/Laws/Scope.lean ====
section
/-! SUPPORT. Which part of the state each operation can change: the block that carries it out, and the messages in
flight. A later proof about one block cites these lemmas and unfolds nothing of the others. -/

namespace Sys2Proof.Machine

set_option Elab.async false

/-- Only the pool manager and the messages in flight differ. -/
def PoolStep (s t : State) : Prop :=
  t.queues = s.queues ∧ t.engine = s.engine ∧ t.leases = s.leases ∧ t.notify = s.notify ∧ t.config = s.config ∧
    t.ports = s.ports ∧ t.resetLow = s.resetLow ∧ t.pending = s.pending

/-- Only the queue engine and the messages in flight differ. -/
def QueueStep (s t : State) : Prop :=
  t.pool = s.pool ∧ t.leases = s.leases ∧ t.notify = s.notify ∧ t.config = s.config ∧
    t.ports = s.ports ∧ t.resetLow = s.resetLow ∧ t.pending = s.pending

/-- Only the lease manager and the messages in flight differ. -/
def LeaseStep (s t : State) : Prop :=
  t.pool = s.pool ∧ t.queues = s.queues ∧ t.engine = s.engine ∧ t.notify = s.notify ∧ t.config = s.config ∧
    t.ports = s.ports ∧ t.resetLow = s.resetLow ∧ t.pending = s.pending

/-- Only the notification unit and the messages in flight differ. -/
def NotifyStep (s t : State) : Prop :=
  t.pool = s.pool ∧ t.queues = s.queues ∧ t.engine = s.engine ∧ t.leases = s.leases ∧ t.config = s.config ∧
    t.ports = s.ports ∧ t.resetLow = s.resetLow ∧ t.pending = s.pending

/-- Only the configuration unit and the messages in flight differ. -/
def ConfigStep (s t : State) : Prop :=
  t.pool = s.pool ∧ t.queues = s.queues ∧ t.engine = s.engine ∧ t.leases = s.leases ∧ t.notify = s.notify ∧
    t.ports = s.ports ∧ t.resetLow = s.resetLow ∧ t.pending = s.pending

/-- Only the controller of one port and the messages in flight differ. -/
def PortStep (p : Port) (s t : State) : Prop :=
  t.pool = s.pool ∧ t.queues = s.queues ∧ t.engine = s.engine ∧ t.leases = s.leases ∧ t.notify = s.notify ∧
    t.config = s.config ∧ t.ports = upd s.ports p (t.port p) ∧ t.resetLow = s.resetLow ∧ t.pending = s.pending

/-- Only the messages in flight differ. -/
def LinksStep (s t : State) : Prop :=
  t.pool = s.pool ∧ t.queues = s.queues ∧ t.engine = s.engine ∧ t.leases = s.leases ∧ t.notify = s.notify ∧
    t.config = s.config ∧ t.ports = s.ports ∧ t.resetLow = s.resetLow ∧ t.pending = s.pending

theorem PoolStep.refl (s : State) : PoolStep s s := by simp [PoolStep]
theorem QueueStep.refl (s : State) : QueueStep s s := by simp [QueueStep]
theorem LeaseStep.refl (s : State) : LeaseStep s s := by simp [LeaseStep]
theorem NotifyStep.refl (s : State) : NotifyStep s s := by simp [NotifyStep]

theorem PoolStep.trans {s t u : State} (h : PoolStep s t) (k : PoolStep t u) : PoolStep s u := by
  simp_all [PoolStep]
theorem QueueStep.trans {s t u : State} (h : QueueStep s t) (k : QueueStep t u) : QueueStep s u := by
  simp_all [QueueStep]
theorem LeaseStep.trans {s t u : State} (h : LeaseStep s t) (k : LeaseStep t u) : LeaseStep s u := by
  simp_all [LeaseStep]
theorem NotifyStep.trans {s t u : State} (h : NotifyStep s t) (k : NotifyStep t u) : NotifyStep s u := by
  simp_all [NotifyStep]

/-- A fold of steps of one kind is a step of that kind. -/
theorem foldl_step {α : Type} {R : State → State → Prop} (refl : ∀ s, R s s)
    (trans : ∀ {s t u}, R s t → R t u → R s u) {f : State → α → State} (hf : ∀ s a, R s (f s a)) (l : List α)
    (s : State) : R s (l.foldl f s) := by
  induction l generalizing s with
  | nil => exact refl s
  | cons a l ih => exact trans (hf s a) (ih _)

/-! ### Pool manager -/

theorem poolCleanup_step (p : Port) (s : State) : PoolStep s (poolCleanup p s) := by
  simp only [poolCleanup]; split
  · simp [PoolStep]
  · split
    · simp [PoolStep]
    · split <;> simp [PoolStep]

theorem poolDeferred_step (p : Port) (s : State) : PoolStep s (poolDeferred p s) := by
  simp only [poolDeferred]; split
  · exact poolCleanup_step p s
  · exact PoolStep.refl s

/-- A step before a deferred cleanup. -/
theorem PoolStep.deferred {s t : State} (p : Port) (h : PoolStep s t) : PoolStep s (poolDeferred p t) :=
  h.trans (poolDeferred_step p t)

theorem slotCheck_step (p : Port) (args : Option PutArgs) (s : State) : PoolStep s (slotCheck p args s) := by
  simp only [slotCheck]; split
  · exact PoolStep.deferred p (by simp [PoolStep])
  · exact PoolStep.deferred p (by simp [PoolStep])
  · simp [PoolStep]

theorem judgePutData_step (p : Port) (payload : List Byte) (s : State) : PoolStep s (judgePutData p payload s) := by
  simp only [judgePutData]; repeat' split
  all_goals simp [PoolStep]

theorem judgePutCommit_step (p : Port) (payload : List Byte) (s : State) :
    PoolStep s (judgePutCommit p payload s) := by
  simp only [judgePutCommit]; repeat' split
  all_goals simp [PoolStep]

theorem judgePutAbort_step (p : Port) (payload : List Byte) (s : State) : PoolStep s (judgePutAbort p payload s) := by
  simp only [judgePutAbort]; repeat' split
  all_goals simp [PoolStep]

theorem judgePort_step (p : Port) (r : Req) (payload : List Byte) (s : State) :
    PoolStep s (judgePort p r payload s) := by
  simp only [judgePort]; split
  · exact slotCheck_step ..
  · exact slotCheck_step ..
  · exact judgePutData_step ..
  · exact judgePutCommit_step ..
  · exact judgePutAbort_step ..
  · exact PoolStep.refl s

theorem judgeBudget_step (p : Port) (payload : List Byte) (s : State) : PoolStep s (judgeBudget p payload s) := by
  simp only [judgeBudget]; repeat' split
  all_goals simp [PoolStep]

theorem startReset_step (s : State) : PoolStep s (startReset s) := by simp [startReset, PoolStep]

theorem holdPool_step (x : PoolMsg) (s : State) : PoolStep s (holdPool x s) := by simp [holdPool, PoolStep]

theorem restPool_step (src : Source) (l : List PoolMsg) (s : State) : PoolStep s (restPool src l s) := by
  simp [PoolStep]

theorem takePort_step (p : Port) (r : Req) (s : State) : PoolStep s (takePort p r s) := by
  simp only [takePort]; split
  · split
    · split
      · exact (restPool_step ..).trans (holdPool_step ..)
      · exact (restPool_step ..).trans (judgePort_step ..)
    · exact PoolStep.refl s
  · exact PoolStep.refl s

theorem takeBudget_step (s : State) : PoolStep s (takeBudget s) := by
  simp only [takeBudget]; split
  · split
    · exact (restPool_step ..).trans (holdPool_step ..)
    · exact (restPool_step ..).trans (judgeBudget_step ..)
  · exact PoolStep.refl s

theorem sendBack_step (s : State) (p : Port) : PoolStep s (sendBack s p) := by
  simp only [sendBack]; split <;> simp [PoolStep]

theorem releaseHeld_step (l : List PoolMsg) (s : State) : PoolStep s (releaseHeld l s) := by
  induction l generalizing s with
  | nil => exact PoolStep.refl s
  | cons m l ih =>
    have h : PoolStep s (s.setPool { s.pool with held := l }) := by simp [PoolStep]
    simp only [releaseHeld]; split
    · exact (h.trans (judgePort_step ..)).trans (ih _)
    · exact (h.trans (judgeBudget_step ..)).trans (ih _)
    · exact h.trans (startReset_step _)
    · exact h.trans (ih _)

theorem returnAll_step (s : State) : PoolStep s (returnAll s) := by
  simp only [returnAll]
  refine PoolStep.trans ?_ (releaseHeld_step ..)
  refine PoolStep.trans ?_ (foldl_step PoolStep.refl PoolStep.trans sendBack_step _ _)
  refine PoolStep.trans ?_ (foldl_step PoolStep.refl PoolStep.trans (fun s p => poolDeferred_step p s) _ _)
  simp [PoolStep]

theorem refuseCells_step (p : Port) (a : AllocReq) (st : Status) (s : State) : PoolStep s (refuseCells p a st s) :=
  PoolStep.deferred p (by simp [PoolStep])

theorem grantCells_step (p : Port) (a : AllocReq) (args : PutArgs) (s : State) :
    PoolStep s (grantCells p a args s) := by
  simp only [grantCells]; split <;> exact PoolStep.deferred p (by simp [PoolStep])

theorem arbitrate_step (p : Port) (a : AllocReq) (s : State) : PoolStep s (arbitrate p a s) := by
  have h : ∀ x, PoolStep s (s.setPool x) := fun x => by simp [PoolStep]
  simp only [arbitrate]; repeat' split
  · exact h _
  · exact (h _).trans (refuseCells_step ..)
  · exact (h _).trans (refuseCells_step ..)
  · exact (h _).trans (grantCells_step ..)

theorem noteCleared_step (queue : Bool) (s : State) : PoolStep s (noteCleared queue s) := by
  have h : ∀ x, PoolStep s (s.setPool x) := fun x => by simp [PoolStep]
  simp only [noteCleared]; split
  · exact (h _).trans (returnAll_step _)
  · exact h _

/-! ### Queue engine -/

theorem evalFlag_step (q : QueueId) (s : State) : QueueStep s (evalFlag q s) := by
  simp only [evalFlag]; split <;> simp [QueueStep]

theorem completeDrain_step (q : QueueId) (s : State) : QueueStep s (completeDrain q s) := by
  simp only [completeDrain]; split <;> simp [QueueStep]

theorem settleQueue_step (q : QueueId) (s : State) : QueueStep s (settleQueue q s) :=
  (evalFlag_step q s).trans (completeDrain_step q _)

theorem postArrival_step (q : QueueId) (r : Queue) (s : State) : QueueStep s (postArrival q r s) := by
  simp only [postArrival]; split <;> simp [QueueStep]

theorem setQueue_step (q : QueueId) (r : Queue) (s : State) : QueueStep s (s.setQueue q r) := by simp [QueueStep]
theorem setEngine_step (x : Engine) (s : State) : QueueStep s (s.setEngine x) := by simp [QueueStep]
theorem reportCleanup_queueStep (p : Port) (b : Block) (s : State) : QueueStep s (reportCleanup p b s) := by
  simp [QueueStep]
theorem reportAttach_queueStep (p : Port) (x : AttachReport) (s : State) : QueueStep s (reportAttach p x s) := by
  simp [QueueStep]
theorem sendPool_queueStep (x : PoolMsg) (s : State) : QueueStep s (sendPool .queue x s) := by simp [QueueStep]
theorem sendLease_queueStep (x : LeaseMsg) (s : State) : QueueStep s (sendLease .queue x s) := by simp [QueueStep]
theorem reply_queueStep (p : Port) (st : Status) (l : List Byte) (s : State) : QueueStep s (reply p st l s) := by
  simp [QueueStep]

theorem judgeChecks_step (p : Port) (q : QueueId) (n : Nat) (s : State) : QueueStep s (judgeChecks p q n s) := by
  simp only [judgeChecks]; split
  · exact sendPool_queueStep ..
  · exact ((setQueue_step ..).trans (evalFlag_step ..)).trans (sendPool_queueStep ..)

theorem takeCommit_step (q : QueueId) (m : Message) (s : State) : QueueStep s (takeCommit q m s) :=
  ((setQueue_step ..).trans (postArrival_step ..)).trans (sendPool_queueStep ..)

theorem takePendingDecrement_step (q : QueueId) (s : State) : QueueStep s (takePendingDecrement q s) :=
  (setQueue_step ..).trans (settleQueue_step ..)

theorem takeLeasedDecrement_step (q : QueueId) (s : State) : QueueStep s (takeLeasedDecrement q s) :=
  (setQueue_step ..).trans (settleQueue_step ..)

theorem takeReinsertion_step (q : QueueId) (m : Message) (s : State) : QueueStep s (takeReinsertion q m s) :=
  (setQueue_step ..).trans (postArrival_step ..)

theorem judgeHead_step (p : Port) (q : QueueId) (s : State) : QueueStep s (judgeHead p q s) := by
  simp only [judgeHead]; repeat' split
  all_goals simp [QueueStep]

theorem takeDeadLetter_step (q : QueueId) (m : Message) (c : DeadCause) (s : State) :
    QueueStep s (takeDeadLetter q m c s) := by
  simp only [takeDeadLetter]; split
  · exact ((((((setQueue_step ..).trans (setQueue_step ..)).trans (postArrival_step ..)).trans
      (evalFlag_step ..)).trans (evalFlag_step ..)).trans (completeDrain_step ..)).trans (sendLease_queueStep ..)
  · exact ((setQueue_step ..).trans (settleQueue_step ..)).trans (sendLease_queueStep ..)

theorem judgeDefine_step (p : Port) (l : List Byte) (s : State) : QueueStep s (judgeDefine p l s) := by
  simp only [judgeDefine, noticeSettings]; repeat' split
  all_goals simp [QueueStep]

theorem judgeSet_step (p : Port) (l : List Byte) (s : State) : QueueStep s (judgeSet p l s) := by
  simp only [judgeSet, noticeSettings]; repeat' split
  · exact reply_queueStep ..
  · exact reply_queueStep ..
  · exact reply_queueStep ..
  · exact (((setQueue_step ..).trans (evalFlag_step ..)).trans (sendLease_queueStep ..)).trans (reply_queueStep ..)

theorem judgeClose_step (p : Port) (l : List Byte) (s : State) : QueueStep s (judgeClose p l s) := by
  simp only [judgeClose]; repeat' split
  · exact reply_queueStep ..
  · exact reply_queueStep ..
  · exact reply_queueStep ..
  · exact ((setQueue_step ..).trans (completeDrain_step ..)).trans (reply_queueStep ..)

theorem releaseAll_step (l : List Message) (s : State) : QueueStep s (releaseAll l s) :=
  foldl_step QueueStep.refl QueueStep.trans (fun _ _ => sendPool_queueStep ..) l s

theorem purgeList_step (q : QueueId) (gone : Message → Bool) (producer : Option Port) (s : State) :
    QueueStep s (purgeList q gone producer s) := by
  simp only [purgeList]
  refine QueueStep.trans ?_ (settleQueue_step ..)
  have h := fun r l => (setQueue_step q r s).trans (releaseAll_step l _)
  split
  · exact (h _ _).trans (sendLease_queueStep ..)
  · exact h _ _

theorem judgePurge_step (p : Port) (l : List Byte) (s : State) : QueueStep s (judgePurge p l s) := by
  simp only [judgePurge]; repeat' split
  · exact reply_queueStep ..
  · exact reply_queueStep ..
  · exact (purgeList_step ..).trans (reply_queueStep ..)

theorem judgeStatus_step (p : Port) (l : List Byte) (s : State) : QueueStep s (judgeStatus p l s) := by
  simp only [judgeStatus]; split <;> exact reply_queueStep ..

theorem judgeQueue_step (x : QueueMsg) (s : State) : QueueStep s (judgeQueue x s) := by
  simp only [judgeQueue]; split
  · exact judgeChecks_step ..
  · exact judgeHead_step ..
  · exact judgeDefine_step ..
  · exact judgeSet_step ..
  · exact judgeClose_step ..
  · exact judgePurge_step ..
  · exact judgeStatus_step ..
  · exact QueueStep.refl s

theorem restQueue_step (src : Source) (l : List QueueMsg) (s : State) : QueueStep s (restQueue src l s) := by
  simp [QueueStep]

theorem holdOrJudge_step (x : QueueMsg) (s : State) : QueueStep s (holdOrJudge x s) := by
  simp only [holdOrJudge]; split
  · simp [QueueStep]
  · exact judgeQueue_step x s

theorem takeQueueRequest_step (src : Source) (r : Req) (s : State) : QueueStep s (takeQueueRequest src r s) := by
  simp only [takeQueueRequest]; split
  · split
    · exact (restQueue_step ..).trans (holdOrJudge_step ..)
    · exact QueueStep.refl s
  · exact QueueStep.refl s

theorem purgeProducer_step (p : Port) (s : State) (q : QueueId) : QueueStep s (purgeProducer p s q) := by
  simp only [purgeProducer]; split
  · exact purgeList_step ..
  · exact QueueStep.refl s

theorem attachArrival_step (p : Port) (s : State) (q : QueueId) : QueueStep s (attachArrival p s q) := by
  simp only [attachArrival]; split <;> simp [QueueStep]

theorem clearQueue_step (s : State) (q : QueueId) : QueueStep s (clearQueue s q) := setQueue_step ..

theorem reportCleared_step (s : State) : QueueStep s (reportCleared s) := by
  simp only [reportCleared]; split <;> simp [QueueStep]

/-! ### Lease manager -/

theorem setLeases_step (x : Leases) (s : State) : LeaseStep s (s.setLeases x) := by simp [LeaseStep]

theorem reportCleanup_leaseStep (p : Port) (b : Block) (s : State) : LeaseStep s (reportCleanup p b s) := by
  simp [LeaseStep]

theorem setLeaseList_step (p : Port) (l : List Lease) (s : State) : LeaseStep s (setLeaseList p l s) := by
  simp [setLeaseList, LeaseStep]

theorem freeMessage_step (q : QueueId) (m : Message) (s : State) : LeaseStep s (freeMessage q m s) := by
  simp [freeMessage, LeaseStep]

theorem redeliver_step (q : QueueId) (m : Message) (d : Bool) (s : State) : LeaseStep s (redeliver q m d s) := by
  simp only [redeliver]; split
  · exact freeMessage_step ..
  · simp [LeaseStep]
  · simp [LeaseStep]

theorem leaseCleanup_step (p : Port) (s : State) : LeaseStep s (leaseCleanup p s) := by
  simp only [leaseCleanup]; split
  · simp [LeaseStep]
  · exact ((setLeases_step ..).trans (foldl_step LeaseStep.refl LeaseStep.trans
      (fun s (l : Lease) => redeliver_step l.queue l.message false s) _ _)).trans (reportCleanup_leaseStep ..)

theorem leaseDeferred_step (p : Port) (s : State) : LeaseStep s (leaseDeferred p s) := by
  simp only [leaseDeferred]; split
  · exact leaseCleanup_step p s
  · exact LeaseStep.refl s

/-- A step before a deferred cleanup. -/
theorem LeaseStep.deferred {s t : State} (p : Port) (h : LeaseStep s t) : LeaseStep s (leaseDeferred p t) :=
  h.trans (leaseDeferred_step p t)

theorem judgeTake_step (p : Port) (l : List Byte) (s : State) : LeaseStep s (judgeTake p l s) := by
  simp only [judgeTake]; repeat' split
  · exact LeaseStep.deferred p (by simp [LeaseStep])
  · exact LeaseStep.deferred p (by simp [LeaseStep])
  · simp [LeaseStep]

theorem createLease_step (p : Port) (t : TakeBusy) (m : Message) (n : Nat) (d : Delivery) (s : State) :
    LeaseStep s (createLease p t m n d s) := by
  simp only [createLease]; split
  · exact LeaseStep.trans (by simp [LeaseStep]) (freeMessage_step ..)
  · simp [LeaseStep]

theorem takeHeadAnswer_step (p : Port) (a : HeadAnswer) (s : State) : LeaseStep s (takeHeadAnswer p a s) := by
  simp only [takeHeadAnswer]; split
  · exact LeaseStep.refl s
  · refine LeaseStep.deferred p ?_
    split
    · simp [LeaseStep]
    · split
      · simp [LeaseStep]
      · exact createLease_step ..

theorem judgeRead_step (p : Port) (l : List Byte) (s : State) : LeaseStep s (judgeRead p l s) := by
  have h : ∀ st x, LeaseStep s (reply p st x s) := fun st x => by simp [LeaseStep]
  simp only [judgeRead]; repeat' split
  · exact h ..
  · exact h ..
  · exact h ..
  · exact ((h ..).trans (setLeaseList_step ..)).trans (freeMessage_step ..)
  · exact (h ..).trans (setLeaseList_step ..)

theorem judgeSettle_step (p : Port) (l : List Byte) (s : State) : LeaseStep s (judgeSettle p l s) := by
  have h : ∀ st x u, LeaseStep u (reply p st x u) := fun st x u => by simp [LeaseStep]
  simp only [judgeSettle]; repeat' split
  · exact h ..
  · exact h ..
  · exact ((setLeaseList_step ..).trans (freeMessage_step ..)).trans (h ..)
  · exact ((setLeaseList_step ..).trans (redeliver_step ..)).trans (h ..)
  · exact ((setLeaseList_step ..).trans (redeliver_step ..)).trans (h ..)

theorem judgeExtend_step (p : Port) (l : List Byte) (s : State) : LeaseStep s (judgeExtend p l s) := by
  have h : ∀ st x u, LeaseStep u (reply p st x u) := fun st x u => by simp [LeaseStep]
  simp only [judgeExtend]; repeat' split
  · exact h ..
  · exact h ..
  · exact (setLeaseList_step ..).trans (h ..)

theorem judgeLease_step (x : LeaseMsg) (s : State) : LeaseStep s (judgeLease x s) := by
  simp only [judgeLease]; split
  · exact judgeTake_step ..
  · exact judgeRead_step ..
  · exact judgeSettle_step ..
  · exact judgeExtend_step ..
  · exact LeaseStep.refl s

theorem restLease_step (src : Source) (l : List LeaseMsg) (s : State) : LeaseStep s (restLease src l s) := by
  simp [LeaseStep]

theorem takeLeaseRequest_step (p : Port) (r : Req) (s : State) : LeaseStep s (takeLeaseRequest p r s) := by
  simp only [takeLeaseRequest]; split
  · split
    · split
      · exact (restLease_step ..).trans (setLeases_step ..)
      · exact (restLease_step ..).trans (judgeLease_step ..)
    · exact LeaseStep.refl s
  · exact LeaseStep.refl s

theorem expireLease_step (p : Port) (s : State) (l : Lease) : LeaseStep s (expireLease p s l) :=
  LeaseStep.trans (by simp [LeaseStep]) (redeliver_step ..)

theorem expirePort_step (s : State) (p : Port) : LeaseStep s (expirePort s p) :=
  (setLeaseList_step ..).trans (foldl_step LeaseStep.refl LeaseStep.trans (expireLease_step p) _ _)

theorem advance_step (s : State) : LeaseStep s (advance s) :=
  (setLeases_step ..).trans (foldl_step LeaseStep.refl LeaseStep.trans expirePort_step _ _)

theorem releaseHeldLease_step (l : List LeaseMsg) (s : State) : LeaseStep s (releaseHeldLease l s) := by
  induction l generalizing s with
  | nil => exact LeaseStep.refl s
  | cons m l ih => exact ((setLeases_step ..).trans (judgeLease_step ..)).trans (ih _)

/-! ### Notification unit -/

theorem setNotify_step (x : Notify) (s : State) : NotifyStep s (s.setNotify x) := by simp [NotifyStep]
theorem reportCleanup_notifyStep (p : Port) (b : Block) (s : State) : NotifyStep s (reportCleanup p b s) := by
  simp [NotifyStep]

theorem admitNote_step (p : Port) (n : Note) (s : State) : NotifyStep s (admitNote p n s) := by
  simp [admitNote, NotifyStep]

theorem judgePoll_step (p : Port) (l : List Byte) (s : State) : NotifyStep s (judgePoll p l s) := by
  simp only [judgePoll]; split <;> simp [NotifyStep]

theorem judgeSignal_step (p : Port) (l : List Byte) (s : State) : NotifyStep s (judgeSignal p l s) := by
  simp only [judgeSignal, setSignal, admitNote]; repeat' split
  all_goals simp [NotifyStep]

theorem judgeReadSignals_step (p : Port) (l : List Byte) (s : State) : NotifyStep s (judgeReadSignals p l s) := by
  simp only [judgeReadSignals]; split
  · simp [NotifyStep]
  · refine NotifyStep.trans (NotifyStep.trans (t := emptySlots p s) (by simp [emptySlots, NotifyStep])
      (foldl_step NotifyStep.refl NotifyStep.trans (fun s (x : Port × Word) => admitNote_step x.1 (.signalRead p) s)
        (fullSlots s.notify p) _)) (by simp [NotifyStep])

theorem judgeNotify_step (p : Port) (r : Req) (l : List Byte) (s : State) : NotifyStep s (judgeNotify p r l s) := by
  simp only [judgeNotify]; split
  · exact judgePoll_step ..
  · exact judgeSignal_step ..
  · exact judgeReadSignals_step ..
  · exact NotifyStep.refl _

theorem restNotify_step (src : Source) (l : List NotifyMsg) (s : State) : NotifyStep s (restNotify src l s) := by
  simp [NotifyStep]

theorem takeNotifyRequest_step (p : Port) (r : Req) (s : State) : NotifyStep s (takeNotifyRequest p r s) := by
  simp only [takeNotifyRequest]; split
  · split
    · exact (restNotify_step ..).trans (judgeNotify_step ..)
    · exact NotifyStep.refl s
  · exact NotifyStep.refl s

/-! ### Configuration unit -/

theorem takeConfigRequest_step (p : Port) (r : Req) (s : State) : ConfigStep s (takeConfigRequest p r s) := by
  simp only [takeConfigRequest, judgeConfig, judgeClaim, judgeRelease, freeClaim, routeConfig, judgeKeepAlive,
    judgeReset]
  repeat' split
  all_goals simp [ConfigStep]

/-! ### Port controllers -/

theorem PortStep.refl (p : Port) (s : State) : PortStep p s s := by simp [PortStep, State.port]

theorem PortStep.trans {p : Port} {s t u : State} (h : PortStep p s t) (k : PortStep p t u) : PortStep p s u := by
  obtain ⟨h1, h2, h3, h4, h5, h6, h7, h8, h9⟩ := h
  obtain ⟨k1, k2, k3, k4, k5, k6, k7, k8, k9⟩ := k
  exact ⟨k1.trans h1, k2.trans h2, k3.trans h3, k4.trans h4, k5.trans h5, k6.trans h6,
    by rw [k7, h7]; simp, k8.trans h8, k9.trans h9⟩

theorem setPort_step (p : Port) (c : PortCtl) (s : State) : PortStep p s (s.setPort p c) := by simp [PortStep]

theorem restartTimer_step (p : Port) (s : State) : PortStep p s (restartTimer p s) := by
  simp only [restartTimer]; split
  · exact setPort_step ..
  · exact PortStep.refl p s

theorem makeReady_step (p : Port) (x : Cached) (s : State) : PortStep p s (makeReady p x s) := setPort_step ..

theorem respond_step (p : Port) (c t : Byte) (st : Status) (l : List Byte) (s : State) :
    PortStep p s (respond p c t st l s) := (setPort_step ..).trans (makeReady_step ..)

theorem links_step (p : Port) (x : Links) (s : State) : PortStep p s (s.setLinks x) := by simp [PortStep, State.port]

theorem sessionEnd_step (p : Port) (c : EndCause) (s : State) : PortStep p s (sessionEnd p c s) := by
  simp only [sessionEnd, announceEnd]; split
  · exact (setPort_step ..).trans (((((links_step ..).trans (links_step ..)).trans (links_step ..)).trans
      (links_step ..)).trans (links_step ..))
  · exact PortStep.refl p s

theorem carryAttach_step (p : Port) (t : Byte) (s : State) : PortStep p s (carryAttach p t s) :=
  (setPort_step ..).trans (links_step ..)

theorem startExec_step (p : Port) (c t : Byte) (w : Work) (s : State) : PortStep p s (startExec p c t w s) :=
  setPort_step ..

theorem takeFrame_step (p : Port) (r : Req) (f : Frame) (carry : State → State) (s : State)
    (h : ∀ u, PortStep p u (carry u)) : PortStep p s (takeFrame p r f carry s) := by
  have h1 : ∀ c, PortStep p s (restartTimer p (s.setPort p c)) := fun c =>
    (setPort_step ..).trans (restartTimer_step ..)
  simp only [takeFrame]; repeat' split
  · exact (h1 _).trans (makeReady_step ..)
  · exact (h1 _).trans (respond_step ..)
  · exact (h1 _).trans (h _)
  · exact PortStep.refl p s

theorem handPool_step (p : Port) (r : Req) (f : Frame) (s : State) : PortStep p s (handPool p r f s) :=
  takeFrame_step _ _ _ _ _ fun _ => (startExec_step ..).trans (links_step ..)
theorem handLease_step (p : Port) (r : Req) (f : Frame) (s : State) : PortStep p s (handLease p r f s) :=
  takeFrame_step _ _ _ _ _ fun _ => (startExec_step ..).trans (links_step ..)
theorem handNotify_step (p : Port) (r : Req) (f : Frame) (s : State) : PortStep p s (handNotify p r f s) :=
  takeFrame_step _ _ _ _ _ fun _ => (startExec_step ..).trans (links_step ..)
theorem handConfig_step (p : Port) (r : Req) (f : Frame) (s : State) : PortStep p s (handConfig p r f s) :=
  takeFrame_step _ _ _ _ _ fun _ => (startExec_step ..).trans (links_step ..)
theorem handQueue_step (p : Port) (r : Req) (f : Frame) (s : State) : PortStep p s (handQueue p r f s) :=
  takeFrame_step _ _ _ _ _ fun _ => (startExec_step ..).trans (links_step ..)

theorem attachFrame_step (p : Port) (f : Frame) (s : State) : PortStep p s (attachFrame p f s) :=
  takeFrame_step _ _ _ _ _ fun _ => by
    repeat' split
    · exact respond_step ..
    · exact carryAttach_step ..
    · exact (startExec_step ..).trans (sessionEnd_step ..)
    · exact startExec_step ..

theorem takeAnswer_step (p : Port) (e : ExecReq) (x : Answer) (s : State) : PortStep p s (takeAnswer p e x s) := by
  have h : ∀ st l, PortStep p s
      (if e.discard then s.setPort p { s.port p with engine := .idle } else respond p e.code e.tag st l s) := by
    intro st l; split
    · exact setPort_step ..
    · exact respond_step ..
  simp only [takeAnswer]; split
  · exact h ..
  · split
    · exact setPort_step ..
    · exact h ..
  · exact PortStep.refl p s

theorem reachDown_step (p : Port) (s : State) : PortStep p s (reachDown p s) := by
  have h : ∀ c, PortStep p s (s.setPort p c) := fun c => setPort_step ..
  simp only [reachDown]; repeat' split
  · exact (h _).trans (carryAttach_step ..)
  · exact (h _).trans (setPort_step ..)
  · exact (h _).trans (respond_step ..)
  · exact h _
  · exact h _

theorem finishAttach_step (p : Port) (e : ExecReq) (n : Nat) (s : State) : PortStep p s (finishAttach p e n s) := by
  simp only [finishAttach]; split
  · exact (setPort_step ..).trans (sessionEnd_step ..)
  · exact (respond_step ..).trans (setPort_step ..)

theorem tick_step (p : Port) (s : State) : PortStep p s (tick p s) := by
  simp only [tick]; repeat' split
  · exact PortStep.refl p s
  · exact (setPort_step ..).trans (sessionEnd_step ..)
  · exact setPort_step ..

/-! ### Commands -/

/-- What a command can change; DEVICE_RESET and RESET_RELEASE are said in full by their meanings. -/
def scopeOf (c : Instr) : State → State → Prop :=
  match c with
  | .attach p _ => PortStep p
  | .detach p _ => PortStep p
  | .nop p _ => PortStep p
  | .portStatus p _ => PortStep p
  | .poolStatus p _ => PortStep p
  | .badFrame p _ => PortStep p
  | .unknownRequest p _ _ => PortStep p
  | .overrunFrame p _ => PortStep p
  | .responseRead p _ => PortStep p
  | .requestFirstByte p _ => PortStep p
  | .ownerAnswer p => PortStep p
  | .prstAssert p => PortStep p
  | .prstRelease p => PortStep p
  | .keepAliveTimeout p => PortStep p
  | .keepAliveTick p => PortStep p
  | .cleanupReport p _ => PortStep p
  | .notifyEnabledReport p => PortStep p
  | .attachReport p _ => PortStep p
  | .keepAliveSetting p => PortStep p
  | .put (.frame p _) => PortStep p
  | .put (.taken _) => PoolStep
  | .putOpen (.frame p _) => PortStep p
  | .putOpen (.taken _) => PoolStep
  | .putData (.frame p _) => PortStep p
  | .putData (.taken _) => PoolStep
  | .putCommit (.frame p _) => PortStep p
  | .putCommit (.taken _) => PoolStep
  | .putAbort (.frame p _) => PortStep p
  | .putAbort (.taken _) => PoolStep
  | .take (.frame p _) => PortStep p
  | .take (.taken _) => LeaseStep
  | .read (.frame p _) => PortStep p
  | .read (.taken _) => LeaseStep
  | .settle (.frame p _) => PortStep p
  | .settle (.taken _) => LeaseStep
  | .extend (.frame p _) => PortStep p
  | .extend (.taken _) => LeaseStep
  | .poll (.frame p _) => PortStep p
  | .poll (.taken _) => NotifyStep
  | .signal (.frame p _) => PortStep p
  | .signal (.taken _) => NotifyStep
  | .readSignals (.frame p _) => PortStep p
  | .readSignals (.taken _) => NotifyStep
  | .claim (.frame p _) => PortStep p
  | .claim (.taken _) => ConfigStep
  | .release (.frame p _) => PortStep p
  | .release (.taken _) => ConfigStep
  | .setKeepAlive (.frame p _) => PortStep p
  | .setKeepAlive (.taken _) => ConfigStep
  | .resetPool (.frame p _) => PortStep p
  | .resetPool (.taken _) => ConfigStep
  | .defineQueue (.frame p _) => PortStep p
  | .defineQueue (.checked _) => ConfigStep
  | .defineQueue .applied => QueueStep
  | .setQueue (.frame p _) => PortStep p
  | .setQueue (.checked _) => ConfigStep
  | .setQueue .applied => QueueStep
  | .closeQueue (.frame p _) => PortStep p
  | .closeQueue (.checked _) => ConfigStep
  | .closeQueue .applied => QueueStep
  | .purgeQueue (.frame p _) => PortStep p
  | .purgeQueue (.checked _) => ConfigStep
  | .purgeQueue .applied => QueueStep
  | .setBudget (.frame p _) => PortStep p
  | .setBudget (.checked _) => ConfigStep
  | .setBudget .applied => PoolStep
  | .queueStatus (.frame p _) => PortStep p
  | .queueStatus (.taken _) => QueueStep
  | .statusQuery _ _ => LinksStep
  | .poolSessionEnd _ => PoolStep
  | .poolAttach _ => PoolStep
  | .queueCheckRefusal => PoolStep
  | .allocationRequest _ => PoolStep
  | .releaseRequest _ => PoolStep
  | .commitAnswer => PoolStep
  | .resetStart => PoolStep
  | .clearedReport _ => PoolStep
  | .queueSessionEnd _ => QueueStep
  | .queueAttach _ => QueueStep
  | .queueChecks => QueueStep
  | .commit => QueueStep
  | .pendingDecrement => QueueStep
  | .headRemoval => QueueStep
  | .reinsertion => QueueStep
  | .leasedDecrement => QueueStep
  | .deadLetterRequest => QueueStep
  | .queueClearingOrder => QueueStep
  | .cancellationNotice => QueueStep
  | .queueResetCompletion => QueueStep
  | .leaseSessionEnd _ => LeaseStep
  | .leaseAttach _ => LeaseStep
  | .headRemovalAnswer => LeaseStep
  | .deadLetterAnswer => LeaseStep
  | .purgeMarkRequest => LeaseStep
  | .settingsNotice => LeaseStep
  | .leaseExpiry _ _ => LeaseStep
  | .timeBaseAdvance => LeaseStep
  | .leaseClearingOrder => LeaseStep
  | .leaseResetCompletion => LeaseStep
  | .notifySessionEnd _ => NotifyStep
  | .notifyAttach _ => NotifyStep
  | .post _ => NotifyStep
  | .configSessionEnd _ => ConfigStep
  | .keepAliveTakenReport _ => ConfigStep
  | .completionReport => ConfigStep
  | .deviceReset | .resetRelease => fun _ _ => True

theorem attach_scope (p : Port) (f : Frame) (s : State) : ∃ t, exec (.attach p f) s = .next t ∧ scopeOf (.attach p f) s t := by
  exact ⟨_, rfl, attachFrame_step ..⟩

theorem detach_scope (p : Port) (f : Frame) (s : State) : ∃ t, exec (.detach p f) s = .next t ∧ scopeOf (.detach p f) s t := by
  refine ⟨_, rfl, ?_⟩
  exact takeFrame_step _ _ _ _ _ fun _ => by
    split
    · exact respond_step ..
    · exact (startExec_step ..).trans (sessionEnd_step ..)

theorem nop_scope (p : Port) (f : Frame) (s : State) : ∃ t, exec (.nop p f) s = .next t ∧ scopeOf (.nop p f) s t := by
  refine ⟨_, rfl, ?_⟩
  exact takeFrame_step _ _ _ _ _ fun _ => respond_step ..

theorem portStatus_scope (p : Port) (f : Frame) (s : State) : ∃ t, exec (.portStatus p f) s = .next t ∧ scopeOf (.portStatus p f) s t := by
  refine ⟨_, rfl, ?_⟩
  exact takeFrame_step _ _ _ _ _ fun _ => by
    split
    · exact respond_step ..
    · exact (startExec_step ..).trans (((((links_step ..).trans (links_step ..)).trans (links_step ..)).trans
        (links_step ..)).trans (links_step ..))

theorem poolStatus_scope (p : Port) (f : Frame) (s : State) : ∃ t, exec (.poolStatus p f) s = .next t ∧ scopeOf (.poolStatus p f) s t := by
  refine ⟨_, rfl, ?_⟩
  exact takeFrame_step _ _ _ _ _ fun _ => (startExec_step ..).trans ((links_step ..).trans (links_step ..))

theorem statusQuery_scope (p : Port) (place : Place) (s : State) : ∃ t, exec (.statusQuery p place) s = .next t ∧ scopeOf (.statusQuery p place) s t := by
  refine ⟨_, rfl, ?_⟩
  simp only [scopeOf]; repeat' split
  all_goals simp [LinksStep]

theorem badFrame_scope (p : Port) (bytes : List Byte) (s : State) : ∃ t, exec (.badFrame p bytes) s = .next t ∧ scopeOf (.badFrame p bytes) s t := by
  refine ⟨_, rfl, ?_⟩
  simp only [scopeOf]; repeat' split
  · exact (setPort_step ..).trans (makeReady_step ..)
  · exact PortStep.refl ..
  · exact PortStep.refl ..

theorem unknownRequest_scope (p : Port) (code : Byte) (f : Frame) (s : State) : ∃ t, exec (.unknownRequest p code f) s = .next t ∧ scopeOf (.unknownRequest p code f) s t := by
  refine ⟨_, rfl, ?_⟩
  simp only [scopeOf]; repeat' split
  · exact ((setPort_step ..).trans (restartTimer_step ..)).trans (makeReady_step ..)
  · exact ((setPort_step ..).trans (restartTimer_step ..)).trans (respond_step ..)
  · exact PortStep.refl ..

theorem overrunFrame_scope (p : Port) (bytes : List Byte) (s : State) : ∃ t, exec (.overrunFrame p bytes) s = .next t ∧ scopeOf (.overrunFrame p bytes) s t := by
  refine ⟨_, rfl, ?_⟩
  simp only [scopeOf]; repeat' split
  · exact setPort_step ..
  · exact (setPort_step ..).trans (restartTimer_step ..)
  · exact PortStep.refl ..

theorem assertSel_step (p : Port) (s : State) : PortStep p s (assertSel p s) := by
  simp only [assertSel]; repeat' split
  all_goals first | exact PortStep.refl .. | exact setPort_step ..

theorem firstByte_step (p : Port) (code : Byte) (s : State) : PortStep p s (firstByte p code s) := by
  simp only [firstByte]; repeat' split
  all_goals first | exact PortStep.refl .. | exact setPort_step ..

theorem endRead_step (p : Port) (n : Nat) (s : State) : PortStep p s (endRead p n s) := by
  simp only [endRead]; repeat' split
  all_goals first | exact PortStep.refl .. | exact setPort_step ..

theorem responseRead_scope (p : Port) (h : ReadStep) (s : State) :
    ∃ t, exec (.responseRead p h) s = .next t ∧ scopeOf (.responseRead p h) s t := by
  refine ⟨_, rfl, ?_⟩
  simp only [scopeOf]; repeat' split
  all_goals first | exact assertSel_step .. | exact endRead_step .. | exact PortStep.refl .. | exact setPort_step ..

theorem requestFirstByte_scope (p : Port) (h : FirstStep) (s : State) :
    ∃ t, exec (.requestFirstByte p h) s = .next t ∧ scopeOf (.requestFirstByte p h) s t := by
  refine ⟨_, rfl, ?_⟩
  simp only [scopeOf]; split
  · exact assertSel_step ..
  · exact firstByte_step ..

theorem ownerAnswer_scope (p : Port) (s : State) : ∃ t, exec (.ownerAnswer p) s = .next t ∧ scopeOf (.ownerAnswer p) s t := by
  refine ⟨_, rfl, ?_⟩
  simp only [scopeOf]; repeat' split
  · exact (links_step ..).trans (takeAnswer_step ..)
  · exact links_step ..
  · exact PortStep.refl ..

theorem prstAssert_scope (p : Port) (s : State) : ∃ t, exec (.prstAssert p) s = .next t ∧ scopeOf (.prstAssert p) s t := by
  refine ⟨_, rfl, ?_⟩
  simp only [scopeOf]; repeat' split
  · exact PortStep.refl ..
  · exact setPort_step ..
  · exact (setPort_step ..).trans (sessionEnd_step ..)

theorem prstRelease_scope (p : Port) (s : State) : ∃ t, exec (.prstRelease p) s = .next t ∧ scopeOf (.prstRelease p) s t := by
  refine ⟨_, rfl, ?_⟩
  simp only [scopeOf]; split
  · exact setPort_step ..
  · exact PortStep.refl ..

theorem keepAliveTimeout_scope (p : Port) (s : State) : ∃ t, exec (.keepAliveTimeout p) s = .next t ∧ scopeOf (.keepAliveTimeout p) s t := by
  refine ⟨_, rfl, ?_⟩
  simp only [scopeOf]; split
  · exact tick_step ..
  · exact PortStep.refl ..

theorem keepAliveTick_scope (p : Port) (s : State) : ∃ t, exec (.keepAliveTick p) s = .next t ∧ scopeOf (.keepAliveTick p) s t := by
  exact ⟨_, rfl, tick_step ..⟩

theorem cleanupReport_scope (p : Port) (b : Block) (s : State) : ∃ t, exec (.cleanupReport p b) s = .next t ∧ scopeOf (.cleanupReport p b) s t := by
  refine ⟨_, rfl, ?_⟩
  simp only [scopeOf]; repeat' split
  · exact ((links_step ..).trans (setPort_step ..)).trans (reachDown_step ..)
  · exact (links_step ..).trans (setPort_step ..)
  · exact PortStep.refl ..

theorem notifyEnabledReport_scope (p : Port) (s : State) : ∃ t, exec (.notifyEnabledReport p) s = .next t ∧ scopeOf (.notifyEnabledReport p) s t := by
  refine ⟨_, rfl, ?_⟩
  simp only [scopeOf]; repeat' split
  · exact ((links_step ..).trans (setPort_step ..)).trans (((links_step ..).trans (links_step ..)).trans
      (links_step ..))
  · exact links_step ..
  · exact links_step ..
  · exact PortStep.refl ..

theorem attachReport_scope (p : Port) (b : Block) (s : State) : ∃ t, exec (.attachReport p b) s = .next t ∧ scopeOf (.attachReport p b) s t := by
  refine ⟨_, rfl, ?_⟩
  simp only [scopeOf]; repeat' split
  all_goals first
    | exact PortStep.refl ..
    | exact links_step ..
    | exact (links_step ..).trans (setPort_step ..)
    | exact (links_step ..).trans (finishAttach_step ..)

theorem keepAliveSetting_scope (p : Port) (s : State) : ∃ t, exec (.keepAliveSetting p) s = .next t ∧ scopeOf (.keepAliveSetting p) s t := by
  refine ⟨_, rfl, ?_⟩
  simp only [scopeOf]; repeat' split
  · exact (((links_step ..).trans (setPort_step ..)).trans (restartTimer_step ..)).trans (links_step ..)
  · exact PortStep.refl ..

theorem poolSessionEnd_scope (p : Port) (s : State) : ∃ t, exec (.poolSessionEnd p) s = .next t ∧ scopeOf (.poolSessionEnd p) s t := by
  refine ⟨_, rfl, ?_⟩
  simp only [scopeOf]; repeat' split
  · exact (restPool_step ..).trans (poolCleanup_step ..)
  · exact PoolStep.refl ..
  · exact PoolStep.refl ..

theorem poolAttach_scope (p : Port) (s : State) : ∃ t, exec (.poolAttach p) s = .next t ∧ scopeOf (.poolAttach p) s t := by
  refine ⟨_, rfl, ?_⟩
  simp only [scopeOf]; repeat' split
  all_goals simp [PoolStep]

theorem queueCheckRefusal_scope (s : State) : ∃ t, exec .queueCheckRefusal s = .next t ∧ scopeOf .queueCheckRefusal s t := by
  refine ⟨_, rfl, ?_⟩
  simp only [scopeOf]; split
  · exact PoolStep.deferred _ (by simp [PoolStep])
  · exact PoolStep.refl ..

theorem allocationRequest_scope (h : AllocStep) (s : State) : ∃ t, exec (.allocationRequest h) s = .next t ∧ scopeOf (.allocationRequest h) s t := by
  refine ⟨_, rfl, ?_⟩
  simp only [scopeOf]; repeat' split
  all_goals first | exact PoolStep.refl .. | exact arbitrate_step ..

theorem releaseRequest_scope (src : Block) (s : State) : ∃ t, exec (.releaseRequest src) s = .next t ∧ scopeOf (.releaseRequest src) s t := by
  refine ⟨_, rfl, ?_⟩
  simp only [scopeOf]; repeat' split
  all_goals simp [PoolStep]

theorem commitAnswer_scope (s : State) : ∃ t, exec .commitAnswer s = .next t ∧ scopeOf .commitAnswer s t := by
  refine ⟨_, rfl, ?_⟩
  simp only [scopeOf]; split <;> simp [PoolStep]

theorem resetStart_scope (s : State) : ∃ t, exec .resetStart s = .next t ∧ scopeOf .resetStart s t := by
  refine ⟨_, rfl, ?_⟩
  simp only [scopeOf]; repeat' split
  · exact (restPool_step ..).trans (holdPool_step ..)
  · exact (restPool_step ..).trans (startReset_step ..)
  · exact PoolStep.refl ..

theorem clearedReport_scope (src : Block) (s : State) : ∃ t, exec (.clearedReport src) s = .next t ∧ scopeOf (.clearedReport src) s t := by
  refine ⟨_, rfl, ?_⟩
  simp only [scopeOf]; repeat' split
  all_goals first | exact PoolStep.refl .. | exact (restPool_step ..).trans (noteCleared_step ..)

theorem queueSessionEnd_scope (p : Port) (s : State) : ∃ t, exec (.queueSessionEnd p) s = .next t ∧ scopeOf (.queueSessionEnd p) s t := by
  refine ⟨_, rfl, ?_⟩
  simp only [scopeOf]; repeat' split
  · exact ((restQueue_step ..).trans (foldl_step QueueStep.refl QueueStep.trans (purgeProducer_step p) _ _)).trans
      (reportCleanup_queueStep ..)
  · exact QueueStep.refl ..
  · exact QueueStep.refl ..

theorem queueAttach_scope (p : Port) (s : State) : ∃ t, exec (.queueAttach p) s = .next t ∧ scopeOf (.queueAttach p) s t := by
  refine ⟨_, rfl, ?_⟩
  simp only [scopeOf]; repeat' split
  · exact ((restQueue_step ..).trans (foldl_step QueueStep.refl QueueStep.trans (attachArrival_step p) _ _)).trans
      (reportAttach_queueStep ..)
  · exact QueueStep.refl ..
  · exact QueueStep.refl ..

theorem queueChecks_scope (s : State) : ∃ t, exec .queueChecks s = .next t ∧ scopeOf .queueChecks s t := by
  refine ⟨_, rfl, ?_⟩
  simp only [scopeOf]; repeat' split
  all_goals first | exact QueueStep.refl .. | exact (restQueue_step ..).trans (holdOrJudge_step ..)

theorem commit_scope (s : State) : ∃ t, exec .commit s = .next t ∧ scopeOf .commit s t := by
  refine ⟨_, rfl, ?_⟩
  simp only [scopeOf]; repeat' split
  all_goals first | exact QueueStep.refl .. | exact (restQueue_step ..).trans (takeCommit_step ..)

theorem pendingDecrement_scope (s : State) : ∃ t, exec .pendingDecrement s = .next t ∧ scopeOf .pendingDecrement s t := by
  refine ⟨_, rfl, ?_⟩
  simp only [scopeOf]; repeat' split
  all_goals first | exact QueueStep.refl .. | exact (restQueue_step ..).trans (takePendingDecrement_step ..)

theorem headRemoval_scope (s : State) : ∃ t, exec .headRemoval s = .next t ∧ scopeOf .headRemoval s t := by
  refine ⟨_, rfl, ?_⟩
  simp only [scopeOf]; repeat' split
  all_goals first | exact QueueStep.refl .. | exact (restQueue_step ..).trans (holdOrJudge_step ..)

theorem reinsertion_scope (s : State) : ∃ t, exec .reinsertion s = .next t ∧ scopeOf .reinsertion s t := by
  refine ⟨_, rfl, ?_⟩
  simp only [scopeOf]; repeat' split
  all_goals first | exact QueueStep.refl .. | exact (restQueue_step ..).trans (takeReinsertion_step ..)

theorem leasedDecrement_scope (s : State) : ∃ t, exec .leasedDecrement s = .next t ∧ scopeOf .leasedDecrement s t := by
  refine ⟨_, rfl, ?_⟩
  simp only [scopeOf]; repeat' split
  all_goals first | exact QueueStep.refl .. | exact (restQueue_step ..).trans (takeLeasedDecrement_step ..)

theorem deadLetterRequest_scope (s : State) : ∃ t, exec .deadLetterRequest s = .next t ∧ scopeOf .deadLetterRequest s t := by
  refine ⟨_, rfl, ?_⟩
  simp only [scopeOf]; repeat' split
  all_goals first | exact QueueStep.refl .. | exact (restQueue_step ..).trans (takeDeadLetter_step ..)

theorem queueClearingOrder_scope (s : State) : ∃ t, exec .queueClearingOrder s = .next t ∧ scopeOf .queueClearingOrder s t := by
  refine ⟨_, rfl, ?_⟩
  simp only [scopeOf]; split
  · exact (((restQueue_step ..).trans (foldl_step QueueStep.refl QueueStep.trans clearQueue_step _ _)).trans
      (setEngine_step ..)).trans (reportCleared_step ..)
  · exact QueueStep.refl ..

theorem cancellationNotice_scope (s : State) : ∃ t, exec .cancellationNotice s = .next t ∧ scopeOf .cancellationNotice s t := by
  refine ⟨_, rfl, ?_⟩
  simp only [scopeOf]; split
  · exact ((restQueue_step ..).trans (setEngine_step ..)).trans (reportCleared_step ..)
  · exact QueueStep.refl ..

theorem queueResetCompletion_scope (s : State) : ∃ t, exec .queueResetCompletion s = .next t ∧ scopeOf .queueResetCompletion s t := by
  refine ⟨_, rfl, ?_⟩
  simp only [scopeOf]; split
  · exact ((restQueue_step ..).trans (setEngine_step ..)).trans (foldl_step QueueStep.refl QueueStep.trans
      (fun s x => judgeQueue_step x s) _ _)
  · exact QueueStep.refl ..

theorem leaseSessionEnd_scope (p : Port) (s : State) : ∃ t, exec (.leaseSessionEnd p) s = .next t ∧ scopeOf (.leaseSessionEnd p) s t := by
  refine ⟨_, rfl, ?_⟩
  simp only [scopeOf]; repeat' split
  · exact (restLease_step ..).trans (leaseCleanup_step ..)
  · exact LeaseStep.refl ..
  · exact LeaseStep.refl ..

theorem leaseAttach_scope (p : Port) (s : State) : ∃ t, exec (.leaseAttach p) s = .next t ∧ scopeOf (.leaseAttach p) s t := by
  refine ⟨_, rfl, ?_⟩
  simp only [scopeOf]; repeat' split
  all_goals simp [LeaseStep]

theorem headRemovalAnswer_scope (s : State) : ∃ t, exec .headRemovalAnswer s = .next t ∧ scopeOf .headRemovalAnswer s t := by
  refine ⟨_, rfl, ?_⟩
  simp only [scopeOf]; split
  · exact (restLease_step ..).trans (takeHeadAnswer_step ..)
  · exact LeaseStep.refl ..

theorem deadLetterAnswer_scope (s : State) : ∃ t, exec .deadLetterAnswer s = .next t ∧ scopeOf .deadLetterAnswer s t := by
  refine ⟨_, rfl, ?_⟩
  simp only [scopeOf]; repeat' split
  all_goals simp [LeaseStep]

theorem purgeMarkRequest_scope (s : State) : ∃ t, exec .purgeMarkRequest s = .next t ∧ scopeOf .purgeMarkRequest s t := by
  refine ⟨_, rfl, ?_⟩
  simp only [scopeOf]; split
  · exact (restLease_step ..).trans (foldl_step LeaseStep.refl LeaseStep.trans (fun _ _ => setLeaseList_step ..) _ _)
  · exact LeaseStep.refl ..

theorem settingsNotice_scope (s : State) : ∃ t, exec .settingsNotice s = .next t ∧ scopeOf .settingsNotice s t := by
  refine ⟨_, rfl, ?_⟩
  simp only [scopeOf]; split <;> simp [LeaseStep]

theorem leaseExpiry_scope (p : Port) (id : Nat) (s : State) :
    ∃ t, exec (.leaseExpiry p id) s = .next t ∧ scopeOf (.leaseExpiry p id) s t := by
  simp only [exec, execLeaseExpiry, scopeOf, Host.Outcome.next.injEq, exists_eq_left']
  split
  · split
    · exact advance_step s
    · exact LeaseStep.refl s
  · exact LeaseStep.refl s

theorem timeBaseAdvance_scope (s : State) : ∃ t, exec .timeBaseAdvance s = .next t ∧ scopeOf .timeBaseAdvance s t := by
  refine ⟨_, rfl, ?_⟩
  simp only [scopeOf]; split
  · exact LeaseStep.refl ..
  · exact advance_step ..

theorem leaseClearingOrder_scope (s : State) : ∃ t, exec .leaseClearingOrder s = .next t ∧ scopeOf .leaseClearingOrder s t := by
  refine ⟨_, rfl, ?_⟩
  simp only [scopeOf]; split <;> simp [LeaseStep]

theorem leaseResetCompletion_scope (s : State) : ∃ t, exec .leaseResetCompletion s = .next t ∧ scopeOf .leaseResetCompletion s t := by
  refine ⟨_, rfl, ?_⟩
  simp only [scopeOf]; split
  · exact ((restLease_step ..).trans (setLeases_step ..)).trans (releaseHeldLease_step ..)
  · exact LeaseStep.refl ..

theorem notifySessionEnd_scope (p : Port) (s : State) : ∃ t, exec (.notifySessionEnd p) s = .next t ∧ scopeOf (.notifySessionEnd p) s t := by
  refine ⟨_, rfl, ?_⟩
  simp only [scopeOf]; repeat' split
  · exact (((restNotify_step ..).trans (setNotify_step ..)).trans (foldl_step NotifyStep.refl NotifyStep.trans
      (fun s (x : Port × Word) => admitNote_step x.1 (.signalLost p) s) _ _)).trans (reportCleanup_notifyStep ..)
  · exact NotifyStep.refl ..
  · exact NotifyStep.refl ..

theorem notifyAttach_scope (p : Port) (s : State) : ∃ t, exec (.notifyAttach p) s = .next t ∧ scopeOf (.notifyAttach p) s t := by
  refine ⟨_, rfl, ?_⟩
  simp only [scopeOf]; repeat' split
  all_goals simp [NotifyStep]

theorem post_scope (src : Block) (s : State) : ∃ t, exec (.post src) s = .next t ∧ scopeOf (.post src) s t := by
  refine ⟨_, rfl, ?_⟩
  simp only [scopeOf]; repeat' split
  all_goals first | exact NotifyStep.refl ..

theorem configSessionEnd_scope (p : Port) (s : State) : ∃ t, exec (.configSessionEnd p) s = .next t ∧ scopeOf (.configSessionEnd p) s t := by
  refine ⟨_, rfl, ?_⟩
  simp only [scopeOf, freeClaim]; repeat' split
  all_goals simp [ConfigStep]

theorem keepAliveTakenReport_scope (p : Port) (s : State) : ∃ t, exec (.keepAliveTakenReport p) s = .next t ∧ scopeOf (.keepAliveTakenReport p) s t := by
  refine ⟨_, rfl, ?_⟩
  simp only [scopeOf]; split <;> simp [ConfigStep]

theorem completionReport_scope (s : State) : ∃ t, exec .completionReport s = .next t ∧ scopeOf .completionReport s t := by
  refine ⟨_, rfl, ?_⟩
  simp only [scopeOf]; repeat' split
  all_goals simp [ConfigStep]

/-- Every command answers a next state, which differs from the state before only as `scopeOf` says. -/
theorem exec_scope (c : Instr) (s : State) : ∃ t, exec c s = .next t ∧ scopeOf c s t :=
  match c with
  | .attach p f => attach_scope p f s
  | .detach p f => detach_scope p f s
  | .nop p f => nop_scope p f s
  | .put (.frame _ _) => ⟨_, rfl, handPool_step ..⟩
  | .put (.taken _) => ⟨_, rfl, takePort_step ..⟩
  | .putOpen (.frame _ _) => ⟨_, rfl, handPool_step ..⟩
  | .putOpen (.taken _) => ⟨_, rfl, takePort_step ..⟩
  | .putData (.frame _ _) => ⟨_, rfl, handPool_step ..⟩
  | .putData (.taken _) => ⟨_, rfl, takePort_step ..⟩
  | .putCommit (.frame _ _) => ⟨_, rfl, handPool_step ..⟩
  | .putCommit (.taken _) => ⟨_, rfl, takePort_step ..⟩
  | .putAbort (.frame _ _) => ⟨_, rfl, handPool_step ..⟩
  | .putAbort (.taken _) => ⟨_, rfl, takePort_step ..⟩
  | .take (.frame _ _) => ⟨_, rfl, handLease_step ..⟩
  | .take (.taken _) => ⟨_, rfl, takeLeaseRequest_step ..⟩
  | .read (.frame _ _) => ⟨_, rfl, handLease_step ..⟩
  | .read (.taken _) => ⟨_, rfl, takeLeaseRequest_step ..⟩
  | .settle (.frame _ _) => ⟨_, rfl, handLease_step ..⟩
  | .settle (.taken _) => ⟨_, rfl, takeLeaseRequest_step ..⟩
  | .extend (.frame _ _) => ⟨_, rfl, handLease_step ..⟩
  | .extend (.taken _) => ⟨_, rfl, takeLeaseRequest_step ..⟩
  | .poll (.frame _ _) => ⟨_, rfl, handNotify_step ..⟩
  | .poll (.taken _) => ⟨_, rfl, takeNotifyRequest_step ..⟩
  | .signal (.frame _ _) => ⟨_, rfl, handNotify_step ..⟩
  | .signal (.taken _) => ⟨_, rfl, takeNotifyRequest_step ..⟩
  | .readSignals (.frame _ _) => ⟨_, rfl, handNotify_step ..⟩
  | .readSignals (.taken _) => ⟨_, rfl, takeNotifyRequest_step ..⟩
  | .claim (.frame _ _) => ⟨_, rfl, handConfig_step ..⟩
  | .claim (.taken _) => ⟨_, rfl, takeConfigRequest_step ..⟩
  | .release (.frame _ _) => ⟨_, rfl, handConfig_step ..⟩
  | .release (.taken _) => ⟨_, rfl, takeConfigRequest_step ..⟩
  | .defineQueue (.frame _ _) => ⟨_, rfl, handConfig_step ..⟩
  | .defineQueue (.checked _) => ⟨_, rfl, takeConfigRequest_step ..⟩
  | .defineQueue .applied => ⟨_, rfl, takeQueueRequest_step ..⟩
  | .setQueue (.frame _ _) => ⟨_, rfl, handConfig_step ..⟩
  | .setQueue (.checked _) => ⟨_, rfl, takeConfigRequest_step ..⟩
  | .setQueue .applied => ⟨_, rfl, takeQueueRequest_step ..⟩
  | .closeQueue (.frame _ _) => ⟨_, rfl, handConfig_step ..⟩
  | .closeQueue (.checked _) => ⟨_, rfl, takeConfigRequest_step ..⟩
  | .closeQueue .applied => ⟨_, rfl, takeQueueRequest_step ..⟩
  | .purgeQueue (.frame _ _) => ⟨_, rfl, handConfig_step ..⟩
  | .purgeQueue (.checked _) => ⟨_, rfl, takeConfigRequest_step ..⟩
  | .purgeQueue .applied => ⟨_, rfl, takeQueueRequest_step ..⟩
  | .setBudget (.frame _ _) => ⟨_, rfl, handConfig_step ..⟩
  | .setBudget (.checked _) => ⟨_, rfl, takeConfigRequest_step ..⟩
  | .setBudget .applied => ⟨_, rfl, takeBudget_step s⟩
  | .setKeepAlive (.frame _ _) => ⟨_, rfl, handConfig_step ..⟩
  | .setKeepAlive (.taken _) => ⟨_, rfl, takeConfigRequest_step ..⟩
  | .resetPool (.frame _ _) => ⟨_, rfl, handConfig_step ..⟩
  | .resetPool (.taken _) => ⟨_, rfl, takeConfigRequest_step ..⟩
  | .queueStatus (.frame _ _) => ⟨_, rfl, handQueue_step ..⟩
  | .queueStatus (.taken _) => ⟨_, rfl, takeQueueRequest_step ..⟩
  | .portStatus p f => portStatus_scope p f s
  | .poolStatus p f => poolStatus_scope p f s
  | .statusQuery p place => statusQuery_scope p place s
  | .badFrame p bytes => badFrame_scope p bytes s
  | .unknownRequest p code f => unknownRequest_scope p code f s
  | .overrunFrame p bytes => overrunFrame_scope p bytes s
  | .responseRead p h => responseRead_scope p h s
  | .ownerAnswer p => ownerAnswer_scope p s
  | .deviceReset => ⟨_, rfl, trivial⟩
  | .prstAssert p => prstAssert_scope p s
  | .prstRelease p => prstRelease_scope p s
  | .keepAliveTimeout p => keepAliveTimeout_scope p s
  | .configSessionEnd p => configSessionEnd_scope p s
  | .poolSessionEnd p => poolSessionEnd_scope p s
  | .queueSessionEnd p => queueSessionEnd_scope p s
  | .leaseSessionEnd p => leaseSessionEnd_scope p s
  | .notifySessionEnd p => notifySessionEnd_scope p s
  | .cleanupReport p b => cleanupReport_scope p b s
  | .notifyAttach p => notifyAttach_scope p s
  | .notifyEnabledReport p => notifyEnabledReport_scope p s
  | .queueAttach p => queueAttach_scope p s
  | .leaseAttach p => leaseAttach_scope p s
  | .poolAttach p => poolAttach_scope p s
  | .attachReport p b => attachReport_scope p b s
  | .keepAliveSetting p => keepAliveSetting_scope p s
  | .keepAliveTakenReport p => keepAliveTakenReport_scope p s
  | .queueChecks => queueChecks_scope s
  | .queueCheckRefusal => queueCheckRefusal_scope s
  | .allocationRequest h => allocationRequest_scope h s
  | .releaseRequest src => releaseRequest_scope src s
  | .commit => commit_scope s
  | .commitAnswer => commitAnswer_scope s
  | .pendingDecrement => pendingDecrement_scope s
  | .headRemoval => headRemoval_scope s
  | .headRemovalAnswer => headRemovalAnswer_scope s
  | .reinsertion => reinsertion_scope s
  | .leasedDecrement => leasedDecrement_scope s
  | .deadLetterRequest => deadLetterRequest_scope s
  | .deadLetterAnswer => deadLetterAnswer_scope s
  | .purgeMarkRequest => purgeMarkRequest_scope s
  | .settingsNotice => settingsNotice_scope s
  | .leaseExpiry p id => leaseExpiry_scope p id s
  | .resetStart => resetStart_scope s
  | .leaseClearingOrder => leaseClearingOrder_scope s
  | .queueClearingOrder => queueClearingOrder_scope s
  | .cancellationNotice => cancellationNotice_scope s
  | .clearedReport src => clearedReport_scope src s
  | .queueResetCompletion => queueResetCompletion_scope s
  | .leaseResetCompletion => leaseResetCompletion_scope s
  | .completionReport => completionReport_scope s
  | .post src => post_scope src s
  | .timeBaseAdvance => timeBaseAdvance_scope s
  | .keepAliveTick p => keepAliveTick_scope p s
  | .resetRelease => ⟨_, rfl, trivial⟩
  | .requestFirstByte p h => requestFirstByte_scope p h s

end Sys2Proof.Machine
end

