-- ==== Sys2Proof/WellFormed.lean ====
section
/-! DEFINITION. The checks a command must pass to name a happening that can exist: frame sizes, first bytes, and
blocks that send the message in question. The machine gives every command a meaning; these checks are for readers and
for statements. -/

namespace Sys2Proof

/-- A good frame's payload is at most 288 bytes (10 R163). -/
def Frame.wf (f : Frame) : Bool := f.payload.length ≤ Config.payloadLimit

/-- The frame of a request step is well formed. -/
def ReqStep.wf : ReqStep → Bool
  | .frame _ f => f.wf
  | .taken _ => true

/-- The frame of a configuration step is well formed. -/
def CfgStep.wf : CfgStep → Bool
  | .frame _ f => f.wf
  | .checked _ => true
  | .applied => true

/-- The received bytes begin with a byte other than 0x00, which would begin a response read (10 R160). -/
def beginsRequest : List Byte → Bool
  | b :: _ => b != 0
  | [] => false

/-- Well-formed commands. -/
def Instr.wf : Instr → Bool
  | .attach _ f => f.wf
  | .detach _ f => f.wf
  | .nop _ f => f.wf
  | .put h => h.wf
  | .putOpen h => h.wf
  | .putData h => h.wf
  | .putCommit h => h.wf
  | .putAbort h => h.wf
  | .take h => h.wf
  | .read h => h.wf
  | .settle h => h.wf
  | .extend h => h.wf
  | .poll h => h.wf
  | .signal h => h.wf
  | .readSignals h => h.wf
  | .claim h => h.wf
  | .release h => h.wf
  | .defineQueue h => h.wf
  | .setQueue h => h.wf
  | .closeQueue h => h.wf
  | .purgeQueue h => h.wf
  | .setBudget h => h.wf
  | .setKeepAlive h => h.wf
  | .resetPool h => h.wf
  | .queueStatus h => h.wf
  | .portStatus _ f => f.wf
  | .poolStatus _ f => f.wf
  | .statusQuery _ _ => true
  | .badFrame _ bytes => beginsRequest bytes && isBad bytes
  | .unknownRequest _ code f => code != 0 && !knownCode code && f.wf
  | .overrunFrame _ bytes => beginsRequest bytes
  | .responseRead _ _ => true
  | .ownerAnswer _ => true
  | .deviceReset => true
  | .prstAssert _ => true
  | .prstRelease _ => true
  | .keepAliveTimeout _ => true
  | .configSessionEnd _ => true
  | .poolSessionEnd _ => true
  | .queueSessionEnd _ => true
  | .leaseSessionEnd _ => true
  | .notifySessionEnd _ => true
  | .cleanupReport _ _ => true
  | .notifyAttach _ => true
  | .notifyEnabledReport _ => true
  | .queueAttach _ => true
  | .leaseAttach _ => true
  | .poolAttach _ => true
  | .attachReport _ b => b == .pool || b == .queue || b == .lease
  | .keepAliveSetting _ => true
  | .keepAliveTakenReport _ => true
  | .queueChecks => true
  | .queueCheckRefusal => true
  | .allocationRequest _ => true
  | .releaseRequest src => src == .queue || src == .lease
  | .commit => true
  | .commitAnswer => true
  | .pendingDecrement => true
  | .headRemoval => true
  | .headRemovalAnswer => true
  | .reinsertion => true
  | .leasedDecrement => true
  | .deadLetterRequest => true
  | .deadLetterAnswer => true
  | .purgeMarkRequest => true
  | .settingsNotice => true
  | .leaseExpiry _ id => 1 ≤ id && id ≤ 255
  | .resetStart => true
  | .leaseClearingOrder => true
  | .queueClearingOrder => true
  | .cancellationNotice => true
  | .clearedReport src => src == .queue || src == .lease
  | .queueResetCompletion => true
  | .leaseResetCompletion => true
  | .completionReport => true
  | .post src => src == .queue || src == .lease || src == .config
  | .timeBaseAdvance => true
  | .keepAliveTick _ => true
  | .resetRelease => true
  | .requestFirstByte _ (.byte code) => code != 0
  | .requestFirstByte _ .select => true

end Sys2Proof
end

