-- ==== Sys2Proof/Tests/Slice0.lean ====
section
/-! SUPPORT. Small tests of the model, each of one check, one operation or one step, and a witness for every statement
with hypotheses: a concrete state and operands that meet all of them together. Expected values come from spec/: the
layouts of 10 sections 10.7 and 10.8, the CRC of 10 R170, and the rules named. -/

namespace Sys2Proof.Tests

open Sys2Proof.Machine

set_option maxRecDepth 4000

/-- A frame with tag 7. -/
def fr (payload : List Byte) : Frame := { tag := 7, retry := false, payload }

/-- A frame with the RETRY flag. -/
def again (payload : List Byte) : Frame := { tag := 7, retry := true, payload }

/-- Port 1 with this controller, all else as after reset. -/
def at1 (c : PortCtl) : State := State.reset.setPort 1 c

/-- An Attached controller with a keep-alive setting of 10 ms. -/
def attached : PortCtl := { PortCtl.reset with session := .attached, setting := 10, timer := some 10 }

/-- A controller with a request frame in reception. -/
def rx (code : Byte) (c : PortCtl) : PortCtl := { c with link := .request code, engine := .receiving }

/-- A controller with a request in Executing. -/
def busy (code : Byte) (w : Work) (c : PortCtl) : PortCtl :=
  { c with engine := .executing { code, tag := 7, discard := false, work := w } }

/-- The state after a command. -/
def after (c : Instr) (s : State) : State :=
  match exec c s with
  | .next t => t
  | _ => s

/-- The assembly of one cell that tests fill. -/
def asm (fill : Nat) : Assembly :=
  { queue := 3, length := 64, cls := .normal, corr := none, reply := none, fill, chain := [5] }

/-- The pool with that assembly at Port 1. -/
def poolWith (fill : Nat) : Pool := { Pool.reset with slot := upd Pool.reset.slot 1 (.filling (asm fill)) }

/-- A message of one cell. -/
def msg (cls : MsgClass) : Message :=
  { producer := 0, cls, length := 2, corr := none, reply := none, chain := [5], sequence := 0, deliveries := 0
    purged := false, origin := none }

/-- An Open queue: consumer Port 1, producer Port 0, depth 2, high watermark 2. -/
def open2 : Queue :=
  { Queue.reset with state := .opened, consumer := 1, producers := 1, depth := 2, high := 2, low := 1, limit := 2 }

/-- Queue 3 with this record, all else as after reset. -/
def at3 (r : Queue) : State := State.reset.setQueue 3 r

/-- A lease of Queue 3. -/
def lease (id : Nat) : Lease :=
  { id, queue := 3, mode := .confirmed, message := msg .normal, deadline := 1, delivered := 2 }

/-- A lease manager with this lease list and Take at Port 1. -/
def leasesWith (l : List Lease) (t : Option TakeBusy) : Leases :=
  { Leases.reset with lists := upd Leases.reset.lists 1 l, takes := upd Leases.reset.takes 1 t }

/-! ### Well-formedness: an ill-formed term for each check -/

/-- 10 R163: a payload of 289 bytes. -/
theorem test_wf_frame : (Instr.nop 0 (fr (List.replicate 289 0))).wf = false := by decide
theorem test_wf_frame_bound : (Instr.nop 0 (fr (List.replicate 288 0))).wf = true := by decide
theorem test_wf_reqStep : (Instr.put (.frame 0 (fr (List.replicate 289 0)))).wf = false := by decide
theorem test_wf_cfgStep : (Instr.setQueue (.frame 0 (fr (List.replicate 289 0)))).wf = false := by decide
/-- 10 R160: a first byte of 0x00 begins a response read. -/
theorem test_wf_badFrame_first : (Instr.badFrame 0 [0]).wf = false := by decide
theorem test_wf_badFrame_none : (Instr.badFrame 0 []).wf = false := by decide
/-- A good frame is not a bad one. -/
theorem test_wf_badFrame_good : (Instr.badFrame 0 (encodeFrame 3 (fr []))).wf = false := by decide
theorem test_wf_unknown_defined : (Instr.unknownRequest 0 0x1B (fr [])).wf = false := by decide
theorem test_wf_unknown_zero : (Instr.unknownRequest 0 0 (fr [])).wf = false := by decide
theorem test_wf_overrun : (Instr.overrunFrame 0 [0]).wf = false := by decide
theorem test_wf_attachReport : (Instr.attachReport 0 .config).wf = false := by decide
theorem test_wf_release : (Instr.releaseRequest .pool).wf = false := by decide
theorem test_wf_leaseExpiry_low : (Instr.leaseExpiry 0 0).wf = false := by decide
theorem test_wf_leaseExpiry_high : (Instr.leaseExpiry 0 256).wf = false := by decide
theorem test_wf_cleared : (Instr.clearedReport .notify).wf = false := by decide
theorem test_wf_post : (Instr.post .pool).wf = false := by decide
theorem test_wf_firstByte : (Instr.requestFirstByte 0 (.byte 0)).wf = false := by decide

/-! ### Frames and layouts -/

/-- The check value of this CRC for the nine digits (10 R170: 0x1021, 0xFFFF, no reflection, no inversion). -/
theorem test_crc : crc16 [0x31, 0x32, 0x33, 0x34, 0x35, 0x36, 0x37, 0x38, 0x39] = 0x29B1 := by decide
/-- 10 R163: the reasons, and their order: flags before length, length before truncation. -/
theorem test_judge_flags : judgeFrame [3, 7, 2, 0xFF, 0xFF] = .inl .flags := by decide
theorem test_judge_length : judgeFrame [3, 7, 0, 0x01, 0x21] = .inl .length := by decide
theorem test_judge_truncated : judgeFrame [3, 7, 0, 0, 0, 0xAB] = .inl .truncated := by decide
theorem test_judge_crc : judgeFrame [3, 7, 0, 0, 0, 0, 0] = .inl .crc := by decide
/-- Bytes after the CRC are ignored (10 R162). -/
theorem test_judge_good : judgeFrame (encodeFrame 3 (again [1, 2]) ++ [9]) = .inr (3, again [1, 2]) := by decide
/-- No row of the table has bits. -/
theorem test_no_words : decodeTableWord 8 1 = none := rfl

/-- 10 section 10.7.2: a PutOpen with both options. -/
theorem test_parse_putOpen : parsePutOpen [31, 1, 0x10, 0x00, 3, 1, 2, 3, 4, 5] =
    some { queue := 31, length := 4096, cls := .urgent, corr := some 0x01020304, reply := some 5, data := none } := by
  decide
theorem test_parse_putOpen_long : parsePutOpen [0, 0, 0x10, 0x01, 0] = none := by decide
/-- 07 R122: the signal word, most significant byte first. -/
theorem test_parse_signal : parseSignal [2, 0xDE, 0xAD, 0xBE, 0xEF] = some (2, 0xDEADBEEF) := by decide
/-- 02 R25: H equal to the depth is in range, W equal to H is not. -/
theorem test_parse_define :
    (parseDefine [3, 1, 1, 4, 0, 4, 0, 0, 5, 0, 100, 15, 1, 0, 0xFF]).isSome = true := by decide
theorem test_parse_define_low : parseDefine [3, 1, 1, 4, 0, 4, 0, 4, 0, 0, 100, 15, 1, 0, 0xFF] = none := by decide
/-- 09 R154: 9 ms is out of range and 60000 ms is not. -/
theorem test_parse_keepAlive_low : parseKeepAlive [0, 0, 9] = none := by decide
theorem test_parse_keepAlive_high : parseKeepAlive [0, 0xEA, 0x60] = some (0, 60000) := by decide
/-- 10 section 10.7.4: LeaseExpired carries the queue and the lease id, Dropped the cause. -/
theorem test_entry_leaseExpired : Entry.bytes (.note (.leaseExpired 200 3)) = [4, 3, 3, 200, 0, 0] := by decide
theorem test_entry_dropped : Entry.bytes (.note (.dropped 3 .discarded)) = [5, 9, 3, 0, 0, 2] := by decide

/-! ### Operations and steps -/

/-- 01 R2: byte 64 of a message is the first byte of its second cell. -/
theorem test_byteAddr : byteAddr [7, 2] 64 = some 128 := by decide
/-- Writing what an unlisted address reads as removes the entry. -/
theorem test_writeCell_blank : writeCell 5 0 [(4, 1), (5, 2), (6, 3)] = [(4, 1), (6, 3)] := by decide
theorem test_writeCell_between : writeCell 5 9 [(4, 1), (6, 3)] = [(4, 1), (5, 9), (6, 3)] := by decide
/-- 02 R28: an urgent message joins before the first normal one, a reinserted normal one behind every urgent one. -/
theorem test_joinTail : (joinTail (msg .urgent) [msg .urgent, msg .normal]).map (·.cls) =
    [.urgent, .urgent, .normal] := by decide
theorem test_joinHead : (joinHead { msg .normal with deliveries := 1 } [msg .urgent, msg .normal]).map (·.deliveries) =
    [0, 1, 0] := by decide
/-- 04 R69: 255 is followed by 1, and a standing id is passed over. -/
theorem test_freeId : freeId [lease 255, lease 1] 255 = 2 := by decide
/-- 05 R90 to R93: the second delivery reaches a limit of 2; a purge mark comes before a Discard. -/
theorem test_disposition_limit : disposition (raised { msg .normal with deliveries := 1 }) 2 false =
    .deadLetter .limit := by decide
theorem test_disposition_purged : disposition { msg .normal with purged := true } 2 true = .freed := by decide
/-- 01 R6, R7: with limit 4096 and no reserve, 4096 cells are granted and one more is over the limit. -/
theorem test_admission : Pool.reset.admission 2 4096 = .granted := by decide
theorem test_admission_over : Pool.reset.admission 2 4097 = .overLimit := by decide
/-- 06 R112: the 32nd entry is the marker. -/
theorem test_marker : (NoteQueue.admission { enabled := true, entries := List.replicate 31 (.note .poolReset) }
    (.arrival 0)).entries.getLast? = some .overflow := by decide
/-- 08 R138: a Nop in Attached is answered Ok, and 08 R132 step 4: NoSession in Down. -/
theorem test_nop : (match ((after (.nop 1 (fr [])) (at1 (rx 3 attached))).port 1).engine with
    | .responseReady r => r.status | _ => .busy) = .ok := by decide
theorem test_nop_down : (match ((after (.nop 1 (fr [])) (at1 (rx 3 PortCtl.reset))).port 1).engine with
    | .responseReady r => r.status | _ => .busy) = .noSession := by decide
/-- 08 R134 step 1: the epoch rises. -/
theorem test_attach_epoch : ((after (.attach 1 (fr [])) (at1 (rx 1 PortCtl.reset))).port 1).epoch = 1 := by decide
/-- 10 R162: the first byte of a new request discards a ready response, and 10 R165: in Executing the frame overruns. -/
theorem test_firstByte_executing : let s := after (.requestFirstByte 1 .select) (at1 (busy 3 .owner attached))
    ((after (.requestFirstByte 1 (.byte 3)) s).port 1).link = .overrun := by decide
/-- 10 R160: a request transaction shifts out the presence byte and filler. -/
theorem test_miso_filler : let c := (after (.requestFirstByte 1 .select) (at1 attached)).port 1
    (c.miso 0, c.miso 1, c.miso 6) = (0x00, 0xFF, 0xFF) := by decide
/-- 10 R160, R162: SEL is asserted in Executing, the answer comes, and the first byte of a request is taken in
ResponseReady: the presence byte stays 0x00 and the port enters Receiving. -/
theorem test_select_before_answer :
    let s := reply 1 .ok [] (after (.requestFirstByte 1 .select) (at1 (busy 4 .owner attached)))
    let c := (after (.requestFirstByte 1 (.byte 3)) (after (.ownerAnswer 1) s)).port 1
    (c.miso 0, c.engine, c.link) = (0x00, .receiving, .request 3) := by decide
/-- 10 R164, 11 R173: a PoolStatus with a payload is handed on, and answered Range once both takers have answered. -/
theorem test_poolStatus_misfit :
    let s := after (.statusQuery 1 .lease) (after (.statusQuery 1 .pool) (after (.poolStatus 1 (fr [0]))
      (at1 (rx 0x1B attached))))
    (match ((after (.ownerAnswer 1) (after (.ownerAnswer 1) s)).port 1).engine with
      | .responseReady r => (r.status, r.payload) | _ => (.ok, [])) = (.range, []) := by decide
/-- 08 R139: the tick at 1 ms ends the session. -/
theorem test_timeout : ((after (.keepAliveTick 1) (at1 { attached with timer := some 1 })).port 1).lastEnd =
    .timeout := by decide
/-- 06 R103: the second message reaches H = 2. -/
theorem test_high : ((evalFlag 3 (at3 { open2 with pending := 2 })).queue 3).flag = true := by decide
/-- 02 R38: a Draining queue with nothing left becomes Unused. -/
theorem test_drain : ((completeDrain 3 (at3 { open2 with state := .draining })).queue 3).state = .unused := by decide
/-- 09 R148: a free claim is granted. -/
theorem test_claim : (after (.claim (.taken 2)) (sendConfig (.port 2) (.request 2 .claim []) State.reset)).config.holder =
    some 2 := by decide
/-- 10 R172: PRST keeps its level through a device reset (assumption 24). -/
theorem test_deviceReset : ((after .deviceReset (at1 { attached with prst := true })).port 1) =
    { PortCtl.reset with prst := true } := by decide

/-! ### Witnesses: port controllers -/

theorem attached_sound (n : Nat) (h1 : 1 ≤ n) (h2 : n ≤ 10) : PortSound { attached with timer := some n } :=
  ⟨by intro k hk; cases hk; exact ⟨rfl, rfl, h1, h2⟩, fun _ => rfl, by simp [attached, PortCtl.reset],
    by simp [attached, PortCtl.reset], by simp [attached, PortCtl.reset]⟩

/-- A Closing controller that waits for one report. -/
def closing (w : Work) : PortCtl :=
  busy 1 w { PortCtl.reset with session := .closing, outstanding := [.pool] }

theorem closing_sound (w : Work) (h : ∀ l n, w ≠ .attachReports l n) (h' : w ≠ .attachNotify) :
    PortSound (closing w) :=
  ⟨by simp [closing, busy, PortCtl.reset], by cases w <;> simp_all [closing, busy, PortCtl.attaching],
    by simp [closing, busy], by simp [closing, busy], by simp [closing, busy, PortCtl.reset]⟩

/-- A controller whose Attach waits for one report. -/
def attaching : PortCtl := busy 1 (.attachReports [.pool] 0) { PortCtl.reset with session := .attached }

theorem attaching_sound : PortSound attaching :=
  ⟨by simp [attaching, busy, PortCtl.reset], fun _ => rfl, by simp [attaching, busy, PortCtl.reset],
    by simp [attaching, busy], by simp [attaching, busy, PortCtl.reset]⟩

theorem witness_OwnerRequestHandedOver :
    ownerOf .poll = some .notify ∧ frameStands 1 Req.poll.code (fr []) (at1 (rx 0x0D attached)) = true ∧
      ((at1 (rx 0x0D attached)).port 1).session = .attached ∧
      retryMatch 1 Req.poll.code (fr []) (at1 (rx 0x0D attached)) = none := by decide

theorem witness_FrameAnsweredWithoutExecution :
    (let x : Cached := { status := .ok, tag := 7, code := 3, epoch := 0, payload := [] }
     let s := at1 (rx 3 { PortCtl.reset with cache := some x })
     frameStands 1 Req.nop.code (again []) s = true ∧ (s.port 1).cache = some x ∧ (again []).retry = true ∧
       x.code = Req.nop.code ∧ x.tag = (again []).tag) ∧
    (let s := at1 (rx 3 PortCtl.reset)
     frameStands 1 Req.nop.code (fr []) s = true ∧ retryMatch 1 Req.nop.code (fr []) s = none ∧
       (s.port 1).session ≠ .attached) := by decide

theorem witness_AttachFrameOutcomes : ∀ c ∈ [PortCtl.reset, attached, { PortCtl.reset with session := .closing }],
    ∀ l ∈ [[], [0]], frameStands 1 0x01 (fr l) (at1 (rx 1 c)) = true ∧
      retryMatch 1 0x01 (fr l) (at1 (rx 1 c)) = none ∧ ((at1 (rx 1 c)).port 1).session = c.session := by decide

theorem witness_DetachAndNopOutcomes : ∀ code ∈ [0x02, 0x03], ∀ l ∈ [[], [0]],
    ((at1 (rx code attached)).port 1).session = .attached ∧
      frameStands 1 code (fr l) (at1 (rx code attached)) = true ∧
      retryMatch 1 code (fr l) (at1 (rx code attached)) = none := by decide

theorem witness_BadAndUnknownFrames :
    (let s := at1 (rx 3 attached)
     (s.port 1).link = .request 3 ∧ (s.port 1).engine = .receiving ∧ judgeFrame [3] = .inl .truncated) ∧
    (∀ code ∈ [0x1C, 0xFF], frameStands 1 code (fr []) (at1 (rx code attached)) = true ∧ knownCode code = false) ∧
    ([3, 7, 0, 0] : List Byte).length < 5 ∧ (2 : Byte).getLsbD 1 = true ∧
    (¬∃ i, 1 ≤ i ∧ (1 : Byte).getLsbD i = true) ∧ 288 < (1 : Byte).toNat * 256 + (33 : Byte).toNat ∧
    (1 : Byte).toNat * 256 + (32 : Byte).toNat ≤ 288 ∧
    ([3, 7, 1, 0, 0, 0] : List Byte).length < 5 + ((0 : Byte).toNat * 256 + (0 : Byte).toNat) + 2 ∧
    (([0, 0] : List Byte).drop 0).take 2 ≠ crcBytes ([3, 7, 1, 0, 0] ++ ([0, 0] : List Byte).take 0) := by
  refine ⟨by decide, by decide, by decide, by decide, ?_, by decide, by decide, by decide, by decide⟩
  rintro ⟨i, h1, h2⟩
  simp at h2
  omega

theorem witness_FirstByteAndOverrunFrame :
    (0x01 : Byte) ≠ 0 ∧ ((at1 { attached with link := .selected true }).port 1).link = .selected true ∧
      State.reset.resetLow = false ∧ attached.prst = false ∧ ((at1 attached).port 1).link = .none ∧
      (at1 { attached with prst := true }).port 1 = { attached with prst := true } ∧
      ((at1 { attached with link := .overrun }).port 1).link = .overrun := by decide

theorem witness_ResponseReadOutcomes :
    let r : Response :=
      { status := .ok, tag := 7, code := 3, overrun := false, atn := false, epoch := 1, payload := [] }
    ((at1 attached).port 1).link = .none ∧
      ((at1 { attached with link := .selected false }).port 1).link = .selected false ∧
      State.reset.resetLow = false ∧ attached.prst = false ∧
      (let s := at1 { attached with link := .reading true, engine := .responseReady r }
       (s.port 1).link = .reading true ∧ (s.port 1).engine = .responseReady r) ∧
      ((at1 { attached with link := .reading false }).port 1).link = .reading false := by decide

theorem witness_OwnerAnswerBuildsResponse :
    (let s := reply 1 .ok [] (at1 (busy 4 .owner attached))
     sel s.links.answers 1 = [.final .ok []] ∧
       (s.port 1).engine = .executing { code := 4, tag := 7, discard := false, work := .owner }) ∧
    (let s := answer 1 (.part (.timeBase 0)) (at1 (busy 0x1B (.status 2 []) attached))
     sel s.links.answers 1 = [.part (.timeBase 0)] ∧
       (s.port 1).engine = .executing { code := 0x1B, tag := 7, discard := false, work := .status 2 [] }) ∧
    [StatusPart.timeBase 5, .poolCounts 4096 4096 0 false].Perm [.poolCounts 4096 4096 0 false, .timeBase 5] ∧
    [StatusPart.claim true, .notes 1, .leases [(255, 3, 1)], .poolPort 1 0 4096 .empty,
      .controller .attached 1 .none 10 9].Perm [.controller .attached 1 .none 10 9, .poolPort 1 0 4096 .empty,
        .leases [(255, 3, 1)], .notes 1, .claim true] := by
  decide

theorem witness_PrstAssertAndRelease :
    ((at1 attached).port 1).prst = false ∧ ((at1 { attached with prst := true }).port 1).prst = true := by decide

theorem witness_KeepAliveTimerRules :
    ((at1 PortCtl.reset).port 1).timer = none ∧
      ((at1 { attached with timer := some 2 }).port 1).timer = some (0 + 2) ∧
      (PortSound ((at1 { attached with timer := some 1 }).port 1) ∧
        ((at1 { attached with timer := some 1 }).port 1).timer = some 1) ∧
      sel (State.reset.setLinks { Links.empty with
        settings := upd Links.empty.settings 1 [{ requester := 0, setting := 10 }] }).links.settings 1 =
        [{ requester := 0, setting := 10 }] := by
  refine ⟨rfl, rfl, ⟨?_, rfl⟩, by decide⟩
  exact attached_sound 1 (by decide) (by decide)

theorem witness_CleanupReportReachesDown :
    let s := reportCleanup 1 .pool (at1 (closing .heldAttach))
    PortSound (s.port 1) ∧ .pool ∈ sel s.links.cleanups 1 ∧ (s.port 1).outstanding.erase .pool = [] :=
  ⟨closing_sound .heldAttach (by simp) (by simp), by decide, by decide⟩

theorem witness_AttachReportsFinishAttach :
    (let s := (at1 (busy 1 .attachNotify { attached with timer := none })).setLinks
       { Links.empty with enabled := upd Links.empty.enabled 1 true }
     sel s.links.enabled 1 = true ∧
       (s.port 1).engine = .executing { code := 1, tag := 7, discard := false, work := .attachNotify }) ∧
    (let s := reportAttach 1 { block := .pool, charge := 4096 } (reportAttach 1 { block := .queue, charge := 0 }
       (at1 attaching))
     sel s.links.attachReports 1 = [{ block := .queue, charge := 0 }] ++ { block := .pool, charge := 4096 } :: [] ∧
       (∀ y ∈ [AttachReport.mk .queue 0], y.block ≠ .pool) ∧
       (s.port 1).engine = .executing { code := 1, tag := 7, discard := false, work := .attachReports [.pool] 0 } ∧
       PortSound (s.port 1)) :=
  ⟨by decide, by decide, by decide, by decide, attaching_sound⟩

/-! ### Witnesses: pool manager -/

/-- A request of Port 1 on its way to the pool manager. -/
def toPool (r : Req) (l : List Byte) (x : Pool) : State :=
  sendPool (.port 1) (.request 1 r l) (State.reset.setPool x)

theorem toPool_sent (r : Req) (l : List Byte) (x : Pool) :
    (toPool r l x).links.toPool.sent (.port 1) = [.request 1 r l] ∧ (toPool r l x).pool = x := ⟨rfl, rfl⟩

theorem witness_PutSlotCheck : ∀ a, a = parsePutOpen [] →
    (Req.putOpen = .putOpen ∧ Instr.putOpen (.taken 1) = .putOpen (.taken 1) ∧ a = parsePutOpen []) ∧
      (toPool .putOpen [] Pool.reset).links.toPool.sent (.port 1) = [.request 1 .putOpen []] :=
  fun _ h => ⟨⟨rfl, rfl, h⟩, rfl⟩

theorem witness_PutSlotCheck_fields :
    (parsePutOpen ([31, 1] ++ byte2 4096 ++ [3] ++ byte4 5 ++ [31])).map (fun a => (a.length, a.corr)) =
      some (4096, some 5) ∧
    parsePutOpen ([31, 1] ++ byte2 4097 ++ [0]) = none ∧ parsePutOpen ([32, 1] ++ byte2 1 ++ [0]) = none ∧
    (parsePut ([0, 0, 2, 31] ++ List.replicate 256 0)).map (·.length) = some 256 ∧
    parsePut ([0, 0, 0] ++ List.replicate 257 0) = none := by decide

theorem witness_PutDataJudged :
    ((toPool .putData [0, 63, 9] (poolWith 63)).links.toPool.sent (.port 1) = [.request 1 .putData [0, 63, 9]] ∧
      (poolWith 63).resetting = false ∧ sel (poolWith 63).slot 1 = .filling (asm 63) ∧
      (0 : Byte).toNat * 256 + (63 : Byte).toNat = (asm 63).fill ∧
      (asm 63).fill + [(9 : Byte)].length ≤ (asm 63).length ∧ (asm 63).length ≤ 64 * (asm 63).chain.length ∧
      (asm 63).chain.Nodup ∧ CellsSound (poolWith 63)) ∧
    { Pool.reset with resetting := true }.resetting = true ∧ sel Pool.reset.slot 1 = .empty ∧
    (List.replicate 259 (0 : Byte)).length = 259 ∧
    (0 : Byte).toNat * 256 + (62 : Byte).toNat ≠ (asm 63).fill ∧
    (asm 63).length < (asm 63).fill + [(9 : Byte), 9].length := by
  refine ⟨⟨rfl, rfl, ?_, by decide, by decide, by decide, by decide, rfl⟩, rfl, ?_, rfl, by decide, by decide⟩
  · simp [poolWith]
  · simp [Pool.reset]

theorem witness_PutCommitAndAbort : ∀ r ∈ [Req.putCommit, Req.putAbort], ∀ l ∈ [[], [(0 : Byte)]],
    (toPool r l Pool.reset).links.toPool.sent (.port 1) = [.request 1 r l] := fun _ _ _ _ => rfl

theorem witness_PoolTakesAnswersAndReleases :
    (sendPool .queue (.checkRefusal 1 .queueFull) State.reset).links.toPool.sent .queue =
      [.checkRefusal 1 .queueFull] ∧
    (sendPool .queue (.commitAnswer 1 3 0xFFFF) State.reset).links.toPool.sent .queue = [.commitAnswer 1 3 0xFFFF] ∧
    (sendPool .queue (.release 1 [5]) State.reset).links.toPool.sent .queue = [.release 1 [5]] ∧
    (sendPool .lease (.release 1 [5]) State.reset).links.toPool.sent .lease = [.release 1 [5]] :=
  ⟨rfl, rfl, rfl, rfl⟩

/-- The arguments of a PutOpen of 4096 bytes. -/
def args : PutArgs := { queue := 3, length := 4096, cls := .normal, corr := none, reply := none, data := none }

/-- The pointer at Port 2 and the one standing request at Port 1, the last in turn. -/
def standingPool : Pool :=
  { Pool.reset with
    pointer := 2, standing := upd Pool.reset.standing 1 (some { cells := 64, queue := 3 })
    opening := upd Pool.reset.opening 1 (some args) }

theorem witness_AllocationArbitrated :
    (sendPool .queue (.alloc 1 { cells := 64, queue := 3 }) State.reset).links.toPool.sent .queue =
      [.alloc 1 { cells := 64, queue := 3 }] ∧
    { Pool.reset with resetting := true }.resetting = true ∧
    standingPool.resetting = false ∧ (1 : Port) = standingPool.pointer + 3 ∧
    sel standingPool.standing 1 = some { cells := 64, queue := 3 } ∧
    (∀ e : Port, e < 3 → sel standingPool.standing (standingPool.pointer + e) = none) ∧
    sel standingPool.opening 1 = some args ∧
    (cellsWf [] = true ∧ ([5, 3] : List CellId).Nodup ∧ (List.replicate 128 (1 : Byte)).length ≤ 64 * [5, 3].length ∧
      byteAddr [5, 3] 127 ≠ some 0) := by
  refine ⟨rfl, rfl, rfl, rfl, ?_, ?_, ?_, by decide⟩
  · simp [standingPool]
  · decide
  · simp [standingPool]

theorem witness_PoolSessionEndCleanup :
    (let s := sendPool (.port 1) (.sessionEnd 1) (State.reset.setPool standingPool)
     s.links.toPool.sent (.port 1) = [.sessionEnd 1] ∧ sel s.pool.opening 1 ≠ none) ∧
    (let s := sendPool (.port 1) (.sessionEnd 1) (State.reset.setPool (poolWith 63))
     s.links.toPool.sent (.port 1) = [.sessionEnd 1] ∧ sel s.pool.opening 1 = none ∧ s.pool.held = [] ∧
       sel s.pool.slot 1 = .filling (asm 63)) ∧
    sel Pool.reset.slot 1 = .empty ∧ sel Pool.reset.opening 1 = none ∧ Pool.reset.held = [] := by
  simp [standingPool, poolWith, Pool.reset, sendPool, Inbox.push, Inbox.sent, Inbox.put, State.setPool,
    State.setLinks, State.reset, Links.empty, Inbox.empty, sel, upd]

theorem witness_SetBudgetJudged :
    (sendPool .config (.setBudget 1 [1, 0, 0, 16, 0]) State.reset).links.toPool.sent .config =
      [.setBudget 1 [1, 0, 0, 16, 0]] ∧
    parseBudget [1, 0, 0, 16, 0] = some (1, 0, 4096) ∧ parseBudget [1, 0, 0, 16, 1] = none ∧
    3 < (4 : Byte).toNat ∧ (3 : Port).val = (3 : Byte).toNat := by decide

theorem witness_PoolResetStartAndReturnAll :
    (sendPool .config (.resetPool 1) State.reset).links.toPool.sent .config = [.resetPool 1] ∧
    (sendPool .queue .cleared State.reset).links.toPool.sent .queue = [.cleared] ∧
    (sendPool .lease .cleared State.reset).links.toPool.sent .lease = [.cleared] ∧
    sel (upd Pool.reset.standing 1 (some { queue := 3, cells := 2 })) 1 = some { queue := 3, cells := 2 } ∧
    { Pool.reset with freeList := [5, 3] }.freeList.Nodup ∧
    sel Pool.reset.standing 1 = none ∧ sel Pool.reset.slot 1 = .empty ∧ State.reset.pool.resetting = false ∧
    (∀ r ∈ [Req.put, .putOpen, .putData, .putCommit, .putAbort],
      (sendPool (.port 1) (.request 1 r []) State.reset).links.toPool.sent (.port 1) = [.request 1 r []]) ∧
    (sendPool .config (.setBudget 1 []) State.reset).links.toPool.sent .config = [.setBudget 1 []] := by decide

/-! ### Witnesses: queue engine -/

theorem witness_FlagEvaluation :
    open2.high = 2 ∧ Queue.reset.high = 0 ∧
    (let r := { open2 with pending := 2 }
     r.flag = false ∧ r.high ≤ r.list.length + r.leased + r.pending) ∧
    (let r := { open2 with flag := true, leased := 1 }
     r.flag = true ∧ r.list.length + r.leased + r.pending ≤ r.low) ∧
    (let r := { open2 with pending := 1 }
     r.flag = false ∧ r.list.length + r.leased + r.pending < r.high) ∧
    (let r := { open2 with flag := true, leased := 2 }
     r.flag = true ∧ r.low < r.list.length + r.leased + r.pending) := by decide

/-- A message from the lease manager to the queue engine, with Queue 3 as given. -/
def leaseToQueue (x : QueueMsg) (r : Queue) : State := sendQueue .lease x (at3 r)

theorem witness_DecrementsSettleTheQueue :
    (sendQueue .pool (.pendingDecrement 3) State.reset).links.toQueue.sent .pool = [.pendingDecrement 3] ∧
    (leaseToQueue (.leasedDecrement 3) open2).links.toQueue.sent .lease = [.leasedDecrement 3] := by decide

theorem witness_QueueChecksJudged :
    (sendQueue .pool (.checks 1 3 64) State.reset).links.toQueue.sent .pool = [.checks 1 3 64] := by decide

theorem witness_CommitAndReinsertionJoinTheirClass :
    (let s := sendQueue .pool (.commit 3 (msg .urgent)) (at3 { open2 with list := [msg .urgent, msg .normal] })
     s.links.toQueue.sent .pool = [.commit 3 (msg .urgent)] ∧ ClassOrder (s.queue 3).list) ∧
    (let s := leaseToQueue (.reinsertion 3 (msg .normal)) { open2 with list := [msg .urgent, msg .normal] }
     s.links.toQueue.sent .lease = [.reinsertion 3 (msg .normal)] ∧ ClassOrder (s.queue 3).list) := by
  refine ⟨⟨by decide, ?_⟩, by decide, ?_⟩ <;>
    simp [ClassOrder, msg, at3, leaseToQueue, open2]

theorem witness_HeadRemovalJudged :
    (leaseToQueue (.headRemoval 1 3) open2).links.toQueue.sent .lease = [.headRemoval 1 3] := by decide

theorem witness_DeadLetterStep :
    (let s := leaseToQueue (.deadLetter 4 (msg .normal) .limit) open2
     s.links.toQueue.sent .lease = [.deadLetter 4 (msg .normal) .limit] ∧ s.engine.hold = false ∧
       (s.setEngine { Engine.reset with hold := true }).engine.hold = true ∧ (s.queue 4).deadLetter = none) ∧
    (let s := (leaseToQueue (.deadLetter 4 (msg .normal) .limit) { open2 with list := [msg .normal] }).setQueue 4
       { open2 with deadLetter := some 3 }
     s.links.toQueue.sent .lease = [.deadLetter 4 (msg .normal) .limit] ∧ s.engine.hold = false ∧
       (s.queue 4).deadLetter = some 3 ∧ (3 : QueueId) ≠ 4 ∧ (s.queue 3).state = .opened ∧
       (s.queue 3).list.length + (s.queue 3).leased + (s.queue 3).pending < (s.queue 3).depth ∧
       ClassOrder (s.queue 3).list) := by
  refine ⟨by decide, by decide, by decide, by decide, by decide, by decide, by decide, ?_⟩
  rw [State.queue_setQueue_ne _ _ (by decide)]
  simp [leaseToQueue, at3, ClassOrder, open2]

/-- A request that the configuration unit has passed to the queue engine. -/
def passed (r : Req) (l : List Byte) : State := sendQueue .config (.request 1 r l) State.reset

/-- The bytes of a DefineQueue of Queue 3 for Port 1 with Port 0 as producer. -/
def defBytes (depth h w period : Nat) (limit dq : Byte) : List Byte :=
  [3, 1, 1] ++ byte2 depth ++ byte2 h ++ byte2 w ++ byte2 period ++ [limit, 0, 0, dq]

theorem witness_DefineQueueArguments :
    (passed .defineQueue (defBytes 1024 1024 1023 65535 15 0xFF)).links.toQueue.sent .config =
      [.request 1 .defineQueue (defBytes 1024 1024 1023 65535 15 0xFF)] ∧
    (passed .defineQueue (defBytes 1025 0 0 1 1 0xFF)).links.toQueue.sent .config =
      [.request 1 .defineQueue (defBytes 1025 0 0 1 1 0xFF)] ∧
    State.reset.engine.hold = false ∧ (passed .defineQueue [3]).links.toQueue.sent .config =
      [.request 1 .defineQueue [3]] ∧ ([3] : List Byte).length ≠ 15 ∧
    (State.reset.setEngine { Engine.reset with hold := true }).engine.hold = true := by decide

theorem witness_DefineQueueJudged :
    (passed .defineQueue (defBytes 1 0 0 1 1 4)).links.toQueue.sent .config =
      [.request 1 .defineQueue (defBytes 1 0 0 1 1 4)] ∧
    (parseDefine (defBytes 1 0 0 1 1 4)).map (fun x => (x.1, x.2.deadLetter)) = some (3, some 4) ∧
    (State.reset.setEngine { Engine.reset with hold := true }).engine.hold = true ∧
    ((at3 open2).queue 3).state ≠ .unused ∧
    ((State.reset.queue 3).state = .unused ∧ (State.reset.queue 4).state ≠ .opened) ∧
    (let s := State.reset.setQueue 4 { open2 with deadLetter := some 5 }
     (s.queue 3).state = .unused ∧ (s.queue 4).state = .opened ∧ (s.queue 4).deadLetter ≠ none) ∧
    (let s := State.reset.setQueue 4 open2
     (s.queue 3).state = .unused ∧ (s.queue 4).state = .opened ∧ (s.queue 4).deadLetter = none ∧
       unreferenced 3 s = true) := by
  refine ⟨by decide, by decide, by decide, by decide, by decide, by decide, by decide, by decide, by decide, ?_⟩
  simp only [unreferenced, List.all_eq_true]
  intro k _
  by_cases h : (4 : QueueId) = k
  · subst h; decide
  · rw [State.queue_setQueue_ne _ _ h]
    simp [State.queue, State.reset, Queue.reset, Queue.live]

theorem witness_SetQueueJudged :
    (passed .setQueue []).links.toQueue.sent .config = [.request 1 .setQueue []] ∧ ([] : List Byte).length ≠ 12 ∧
    (parseSet ([31, 15] ++ byte2 1024 ++ byte2 1024 ++ byte2 1023 ++ byte2 65535 ++ [15, 1])).map (·.1) = some 31 ∧
    parseSet ([31, 16] ++ byte2 1 ++ byte2 0 ++ byte2 0 ++ byte2 1 ++ [1, 0]) = none := by decide

theorem witness_CloseAndPurgeJudged : ∀ r ∈ [Req.closeQueue, Req.purgeQueue],
    (passed r [3]).links.toQueue.sent .config = [.request 1 r [3]] := by decide

theorem witness_QueueSessionEndPurges :
    (sendQueue (.port 1) (.sessionEnd 1) State.reset).links.toQueue.sent (.port 1) = [.sessionEnd 1] := by decide

theorem witness_QueueClearingAndCompletion :
    (sendQueue .pool .clearingOrder State.reset).links.toQueue.sent .pool = [.clearingOrder] ∧
    (leaseToQueue .cancelled open2).links.toQueue.sent .lease = [.cancelled] ∧
    (sendQueue .pool .completion State.reset).links.toQueue.sent .pool = [.completion] ∧
    State.reset.engine.hold = false ∧
    (sendQueue .pool (.checks 1 3 2) State.reset).links.toQueue.sent .pool = [.checks 1 3 2] ∧
    (leaseToQueue (.headRemoval 1 3) open2).links.toQueue.sent .lease = [.headRemoval 1 3] ∧
    (sendQueue (.port 1) (.request 1 .queueStatus [3]) State.reset).links.toQueue.sent (.port 1) =
      [.request 1 .queueStatus [3]] := by decide

/-! ### Witnesses: lease manager -/

/-- A request of Port 1 on its way to the lease manager. -/
def toLease (r : Req) (l : List Byte) (x : Leases) : State :=
  sendLease (.port 1) (.request 1 r l) (State.reset.setLeases x)

theorem toLease_sent (r : Req) (l : List Byte) (x : Leases) :
    (toLease r l x).links.toLease.sent (.port 1) = [.request 1 r l] ∧ (toLease r l x).leases = x := ⟨rfl, rfl⟩

/-- Sixteen leases, with ids 1 to 16. -/
def sixteen : List Lease := (List.range 16).map fun k => lease (k + 1)

theorem leases_sound (l : List Lease) (h1 : l.length ≤ 16) (h2 : (l.map (·.id)).Nodup)
    (h3 : ∀ x ∈ l, 1 ≤ x.id ∧ x.id ≤ 255) : LeasesSound (leasesWith l none) 1 :=
  ⟨by simpa [leasesWith] using h1, by simpa [leasesWith] using h2, by simpa [leasesWith, LeaseIdOk] using h3,
    by simp [leasesWith, Leases.reset, LeaseIdOk], by simp [leasesWith]⟩

theorem one_sound : LeasesSound (leasesWith [lease 255] none) 1 :=
  leases_sound _ (by decide) (by decide) (by decide)

theorem witness_TakeSetsAsideAnId :
    LeasesSound (leasesWith sixteen none) 1 ∧ sixteen.length = 16 ∧
    LeasesSound (leasesWith (sixteen.take 15) none) 1 ∧ ((sixteen.take 15).map (·.id)).length < 16 ∧
    parseQueue [32] = none ∧ parseQueue [31] = some 31 ∧ (leasesWith sixteen none).hold = false :=
  ⟨leases_sound _ (by decide) (by decide) (by decide), by decide,
    leases_sound _ (by decide) (by decide) (by decide), by decide, by decide, by decide, rfl⟩

theorem witness_HeadRemovalAnswerEndsTheTake : ∀ a ∈ [HeadAnswer.refused .empty, .message (msg .normal) 1 .streamed,
      .message { msg .normal with length := 257 } 1 .streamed, .message (msg .normal) 1 .confirmed],
    ∀ o ∈ [false, true],
      let t : TakeBusy := { id := 255, queue := 3, overtaken := o }
      let s := sendLease .queue (.headAnswer 1 a) (State.reset.setLeases (leasesWith [] (some t)))
      s.links.toLease.sent .queue = [.headAnswer 1 a] ∧ sel s.leases.takes 1 = some t := by
  intro a _ o _
  exact ⟨rfl, by simp [leasesWith]⟩

theorem witness_ReadDeliversBytes :
    LeasesSound (leasesWith [lease 255] none) 1 ∧ lease 255 ∈ sel (leasesWith [lease 255] none).lists 1 ∧
    (lease 255).id = (255 : Byte).toNat ∧ (∀ l ∈ sel (leasesWith [lease 255] none).lists 1, l.id ≠ (1 : Byte).toNat) ∧
    { Leases.reset with hold := true }.hold = true ∧ (leasesWith [lease 255] none).hold = false ∧
    (∀ r ∈ [Req.read, .settle, .extend], ∀ l ∈ [[], List.replicate 6 (0 : Byte)],
      (toLease r l Leases.reset).links.toLease.sent (.port 1) = [.request 1 r l] ∧
      l.length ≠ 1 ∧ l.length ≠ 2 ∧ l.length ≠ 5) := by
  refine ⟨one_sound, ?_, rfl, ?_, rfl, rfl, by decide⟩ <;> simp [leasesWith, lease]

theorem witness_RedeliveryPath :
    (let m := { msg .normal with purged := true }
     m.purged = true) ∧
    ((msg .normal).purged = false ∧ (msg .normal).deliveries + 1 < 2 ∧
      sel { Leases.reset with limits := upd Leases.reset.limits 3 2 }.limits 3 = 2) ∧
    sel Leases.reset.limits 3 ≤ (msg .normal).deliveries + 1 := by decide

theorem witness_SettleEndsTheLease : ∀ o ∈ [(0 : Byte), 1, 2, 3, 4],
    (toLease .settle [255, o] (leasesWith [lease 255] none)).links.toLease.sent (.port 1) =
      [.request 1 .settle [255, o]] ∧
    LeasesSound (leasesWith [lease 255] none) 1 ∧ lease 255 ∈ sel (leasesWith [lease 255] none).lists 1 ∧
    (lease 255).id = (255 : Byte).toNat ∧ (∀ l ∈ sel (leasesWith [lease 255] none).lists 1, l.id ≠ (1 : Byte).toNat) :=
  by
  intro o _
  refine ⟨rfl, one_sound, ?_, rfl, ?_⟩ <;> simp [leasesWith, lease]

theorem witness_ExtendSetsTheDeadline :
    (toLease .extend [255] (leasesWith [lease 255] none)).links.toLease.sent (.port 1) = [.request 1 .extend [255]] ∧
    LeasesSound (leasesWith [lease 255] none) 1 ∧ lease 255 ∈ sel (leasesWith [lease 255] none).lists 1 ∧
    ∀ l ∈ sel (leasesWith [lease 255] none).lists 1, l.id ≠ (1 : Byte).toNat := by
  refine ⟨rfl, one_sound, ?_, ?_⟩ <;> simp [leasesWith, lease]

theorem witness_TimeBaseAdvanceExpiresLeases :
    State.reset.resetLow = false ∧ LeasesSound (leasesWith [lease 255] none) 1 ∧
    lease 255 ∈ sel (leasesWith [lease 255] none).lists 1 ∧
    (lease 255).deadline = (leasesWith [lease 255] none).timeBase + 1 := by
  refine ⟨rfl, one_sound, ?_, rfl⟩
  simp [leasesWith]

theorem witness_LeaseManagerTakesQueueMessages :
    (∀ a ∈ [DeadAnswer.moved 3, .cleared, .dropped 3 .limit (msg .normal)], ∀ o ∈ [false, true],
      let s := sendLease .queue (.deadAnswer a) (State.reset.setLeases { Leases.reset with outstanding := [o] })
      s.links.toLease.sent .queue = [.deadAnswer a] ∧ s.leases.outstanding = [o]) ∧
    (∀ k ∈ [none, some 0], (sendLease .queue (.purgeMark 3 k) State.reset).links.toLease.sent .queue =
      [.purgeMark 3 k]) ∧
    (sendLease .queue (.settings 3 15 65535) State.reset).links.toLease.sent .queue = [.settings 3 15 65535] :=
  ⟨fun _ _ _ _ => ⟨rfl, rfl⟩, fun _ _ => rfl, rfl⟩

theorem witness_LeaseSessionEndReturnsLeases :
    (sendLease (.port 1) (.sessionEnd 1) State.reset).links.toLease.sent (.port 1) = [.sessionEnd 1] ∧
    sel (leasesWith [] (some { id := 1, queue := 3, overtaken := false })).takes 1 ≠ none ∧
    LeaseMsg.request 1 .take [3] ∈ { Leases.reset with held := [.request 1 .take [3]] }.held ∧
    sel Leases.reset.takes 1 = none ∧ Leases.reset.held = [] := by decide

theorem witness_LeaseClearingAndCompletion :
    (sendLease .pool .clearingOrder State.reset).links.toLease.sent .pool = [.clearingOrder] ∧
    (sendLease .pool .completion State.reset).links.toLease.sent .pool = [.completion] ∧
    (toLease .take [3] Leases.reset).leases.hold = false ∧
    (toLease .take [3] Leases.reset).links.toLease.sent (.port 1) = [.request 1 .take [3]] := by decide

/-! ### Witnesses: notification unit, configuration unit, status -/

/-- A notification queue of Port 1 with these entries. -/
def notes (e : List Entry) : Notify :=
  { Notify.reset with queues := upd Notify.reset.queues 1 { enabled := true, entries := e } }

/-- A post of the queue engine to Port 1. -/
def posted (n : Note) (u : Notify) : State := postNote .queue 1 n (State.reset.setNotify u)

theorem witness_PostAdmission :
    (posted (.arrival 3) (notes [.note (.arrival 3)])).links.toNotify.sent .queue = [.post 1 (.arrival 3)] ∧
    (sel Notify.reset.queues 1).enabled = false ∧
    Entry.note (.arrival 3) ∈ (sel (notes [.note (.arrival 3)]).queues 1).entries ∧
    Entry.overflow ∈ (sel (notes [.overflow]).queues 1).entries ∧
    (let q := sel (notes (List.replicate 30 (.note .poolReset))).queues 1
     q.enabled = true ∧ Entry.note (.arrival 3) ∉ q.entries ∧ Entry.overflow ∉ q.entries ∧ q.entries.length < 31) ∧
    (let q := sel (notes (List.replicate 31 (.note .poolReset))).queues 1
     q.enabled = true ∧ Entry.note (.arrival 3) ∉ q.entries ∧ Entry.overflow ∉ q.entries ∧
       31 ≤ q.entries.length) := by decide

/-- A request of Port 1 on its way to the notification unit. -/
def toNotify (r : Req) (l : List Byte) : State := sendNotify (.port 1) (.request 1 r l) State.reset

theorem witness_PollReturnsEntries : ∀ l ∈ [[], [(0 : Byte)]],
    (toNotify .poll l).links.toNotify.sent (.port 1) = [.request 1 .poll l] := by decide

theorem witness_SignalAndReadSignals :
    (∀ t ∈ [(4 : Byte), 1, 3], (toNotify .signal (t :: byte4 5)).links.toNotify.sent (.port 1) =
      [.request 1 .signal (t :: byte4 5)]) ∧
    (3 < (4 : Byte).toNat ∧ (1 : Byte).toNat = (1 : Port).val ∧ (3 : Port).val = (3 : Byte).toNat ∧ (3 : Port) ≠ 1) ∧
    ([(0 : Byte), 1].length ≠ 5 ∧ (toNotify .signal [0, 1]).links.toNotify.sent (.port 1) =
      [.request 1 .signal [0, 1]]) ∧
    ∀ l ∈ [[], [(0 : Byte)]], (toNotify .readSignals l).links.toNotify.sent (.port 1) =
      [.request 1 .readSignals l] := by decide

theorem witness_NotifySessionEndEmptiesThePort :
    (sendNotify (.port 1) (.sessionEnd 1) State.reset).links.toNotify.sent (.port 1) = [.sessionEnd 1] := by decide

theorem witness_AttachAnnouncementsTaken :
    (sendNotify (.port 1) (.attach 1) State.reset).links.toNotify.sent (.port 1) = [.attach 1] ∧
    (sendPool (.port 1) (.attach 1) State.reset).links.toPool.sent (.port 1) = [.attach 1] ∧
    (sendLease (.port 1) (.attach 1) State.reset).links.toLease.sent (.port 1) = [.attach 1] ∧
    (sendQueue (.port 1) (.attach 1) State.reset).links.toQueue.sent (.port 1) = [.attach 1] := by decide

/-- A request of Port 1 on its way to the configuration unit, with this holder. -/
def toConfig (r : Req) (l : List Byte) (h : Option Port) : State :=
  sendConfig (.port 1) (.request 1 r l) (State.reset.setConfig { ConfigUnit.reset with holder := h })

theorem witness_ClaimReleaseAndSessionEnd :
    (∀ l ∈ [[], [(0 : Byte)]], ∀ h ∈ [none, some 1, some 2],
      (toConfig .claim l h).links.toConfig.sent (.port 1) = [.request 1 .claim l] ∧
      (toConfig .release l h).links.toConfig.sent (.port 1) = [.request 1 .release l]) ∧
    (sendConfig (.port 1) (.sessionEnd 1) State.reset).links.toConfig.sent (.port 1) = [.sessionEnd 1] :=
  ⟨fun _ _ _ _ => ⟨rfl, rfl⟩, rfl⟩

theorem witness_ConfigurationRequestsRouted :
    (∀ r ∈ [Req.defineQueue, .setQueue, .closeQueue, .purgeQueue, .setBudget, .resetPool], ∀ h ∈ [none, some 1],
      (toConfig r [] h).links.toConfig.sent (.port 1) = [.request 1 r []]) ∧
    (∀ k ∈ [0, 10, 60000], k < 65536 ∧ ((3 : Port).val = (3 : Byte).toNat) ∧ (k = 0 ∨ (10 ≤ k ∧ k ≤ 60000)) ∧
      (toConfig .setKeepAlive (3 :: byte2 k) (some 1)).config.holder = some 1) ∧
    (∀ k ∈ [1, 9, 60001], k < 65536 ∧ k ≠ 0 ∧ (k < 10 ∨ 60000 < k)) ∧
    (sendConfig (.port 1) (.settingTaken 0 10) State.reset).links.toConfig.sent (.port 1) = [.settingTaken 0 10] ∧
    (let s := sendConfig .pool .completion (State.reset.setConfig { ConfigUnit.reset with resetList := [1] })
     s.links.toConfig.sent .pool = [.completion] ∧ s.config.resetList = [1]) := by decide

theorem witness_StatusRequestsAnswered :
    (∀ l ∈ [[], [(3 : Byte)], [4]],
      frameStands 1 0x1B (fr l) (at1 (rx 0x1B attached)) = true ∧
      retryMatch 1 0x1B (fr l) (at1 (rx 0x1B attached)) = none ∧
      frameStands 1 0x1A (fr l) (at1 (rx 0x1A attached)) = true ∧
      retryMatch 1 0x1A (fr l) (at1 (rx 0x1A attached)) = none) ∧
    sel { Links.empty with queries := upd Links.empty.queries 1 [0] }.queries 1 = [0] ∧
    (sendConfig (.port 1) (.portQuery 1 0) State.reset).links.toConfig.sent (.port 1) = [.portQuery 1 0] ∧
    (sendPool (.port 1) (.portQuery 1 0) State.reset).links.toPool.sent (.port 1) = [.portQuery 1 0] ∧
    (∀ l ∈ [[], [(0 : Byte)]],
      (sendPool (.port 1) (.poolQuery 1 l) State.reset).links.toPool.sent (.port 1) = [.poolQuery 1 l] ∧
      (sendLease (.port 1) (.poolQuery 1 l) State.reset).links.toLease.sent (.port 1) = [.poolQuery 1 l]) ∧
    (sendLease (.port 1) (.portQuery 1 0) State.reset).links.toLease.sent (.port 1) = [.portQuery 1 0] ∧
    (sendNotify (.port 1) (.portQuery 1 0) State.reset).links.toNotify.sent (.port 1) = [.portQuery 1 0] ∧
    (sendQueue (.port 1) (.request 1 .queueStatus [3]) State.reset).links.toQueue.sent (.port 1) =
      [.request 1 .queueStatus [3]] := by decide

/-! ### Witnesses: the whole part -/

theorem witness_StepTakesTheFrontCommand :
    { State.reset with pending := [.resetRelease] }.pending = [.resetRelease] ∧ State.reset.pending = [] := by decide

theorem witness_OtherPortsUntouched :
    Instr.keepAliveTick 1 ≠ .deviceReset ∧ controllerOf (.keepAliveTick 1) ≠ some 2 ∧
    exec (.keepAliveTick 1) State.reset = .next State.reset := ⟨by decide, by decide, rfl⟩

theorem witness_FrameRoundTrip :
    (List.replicate 288 (0 : Byte)).length ≤ 288 ∧ judgeFrame (encodeFrame 3 (fr [])) = .inr (3, fr []) := by decide

/-- A state with this command at the front. -/
def next (c : Instr) (s : State) : State := { s with pending := [c] }

theorem witness_StepKeepsThePool :
    let s := next (.setBudget .applied) State.reset
    (BudgetsSound s.pool ∧ CellsSound s.pool) ∧ ∃ t, step s = .next t := by
  refine ⟨⟨⟨?_, ?_, ?_, ?_, ?_⟩, rfl⟩, _, rfl⟩ <;> simp [next, State.reset, Pool.reset, portSum, sharedInUse]

theorem witness_StepKeepsTheQueues :
    let s := next (.defineQueue .applied) (at3 open2)
    QueuesSound s ∧ ∃ t, step s = .next t := by
  have hr : ∀ q, (at3 open2).queue q = Queue.reset ∨ (at3 open2).queue q = open2 := by
    intro q
    by_cases h : (3 : QueueId) = q
    · subst h; exact .inr (by simp [at3])
    · exact .inl (by rw [at3, State.queue_setQueue_ne _ _ h]; simp [State.queue, State.reset])
  refine ⟨⟨fun q => ?_, fun q d _ hd => ?_⟩, _, rfl⟩ <;> simp only [next] at * <;>
    rcases hr q with h | h
  · rw [State.queue] at h ⊢; rw [h]
    exact ⟨by decide, by decide, by decide, by decide, by decide, by decide, by simp [Queue.reset, ClassOrder]⟩
  · rw [State.queue] at h ⊢; rw [h]
    exact ⟨by decide, by decide, by decide, by decide, by decide, by decide, by simp [open2, Queue.reset, ClassOrder]⟩
  · rw [State.queue] at h hd; rw [h] at hd; exact absurd hd (by simp [Queue.reset])
  · rw [State.queue] at h hd; rw [h] at hd; exact absurd hd (by simp [open2, Queue.reset])

theorem witness_StepKeepsTheLeases :
    let s := next .timeBaseAdvance (State.reset.setLeases (leasesWith [lease 255] none))
    (∀ p, LeasesSound s.leases p) ∧ ∃ t, step s = .next t := by
  refine ⟨fun p => ?_, _, rfl⟩
  by_cases h : (1 : Port) = p
  · subst h; exact one_sound
  · simp only [next, State.setLeases_leases, leasesWith]
    exact ⟨by simp [sel_upd, h, Leases.reset], by simp [sel_upd, h, Leases.reset], by simp [sel_upd, h, Leases.reset],
      by simp [Leases.reset, LeaseIdOk], by simp [sel_upd, h, Leases.reset]⟩

theorem witness_StepKeepsTheNotifications :
    let s := next (.post .queue) (posted (.arrival 3) Notify.reset)
    (∀ p, NotesSound (sel s.notify.queues p)) ∧ SignalsSound s.notify ∧ ∃ t, step s = .next t := by
  refine ⟨fun p => ?_, fun p => ?_, _, rfl⟩
  · exact ⟨by simp [next, posted, Notify.reset], by simp [next, posted, Notify.reset],
      by simp [next, posted, Notify.reset], by simp [next, posted, Notify.reset], by simp [next, posted, Notify.reset]⟩
  · simp [next, posted, Notify.reset, signalSlot]

theorem witness_StepKeepsThePorts :
    let s := next (.keepAliveTick 1) (at1 { attached with timer := some 2 })
    (∀ p, PortSound (s.port p)) ∧ ∃ t, step s = .next t := by
  refine ⟨fun p => ?_, _, rfl⟩
  by_cases h : (1 : Port) = p
  · subst h; exact attached_sound 2 (by decide) (by decide)
  · have e : (at1 { attached with timer := some 2 }).port p = PortCtl.reset := by
      rw [at1, State.port_setPort_ne _ _ h]; simp [State.port, State.reset]
    simp only [next, State.port] at *
    rw [e]
    exact ⟨by simp [PortCtl.reset], by simp [PortCtl.reset, PortCtl.attaching], by simp [PortCtl.reset],
      by simp [PortCtl.reset], by simp [PortCtl.reset]⟩

end Sys2Proof.Tests
end

section
/-! SUPPORT. The cells of the pool and the bytes in them: the canonical form entry by entry, where the positions of a
message stand (01 R2), what storing bytes leaves to read, and the cells that the return-all step frees (01 R17). -/

namespace Sys2Proof.Machine

/-! ### The canonical form -/

/-- The canonical form, entry by entry (assumption 6). -/
theorem cellsWf_iff (m : List Host.Cell) :
    cellsWf m = true ↔ m.Pairwise (fun a b => a.1 < b.1) ∧ ∀ c ∈ m, c.2 ≠ 0 := by
  induction m with
  | nil => simp [cellsWf]
  | cons c m ih =>
    rw [cellsWf_cons, ih, List.pairwise_cons, List.forall_mem_cons]
    exact ⟨fun ⟨hc, hlt, hp, hm⟩ => ⟨⟨hlt, hp⟩, hc, hm⟩, fun ⟨⟨hlt, hp⟩, hc, hm⟩ => ⟨hc, hlt, hp, hm⟩⟩

/-! ### Message positions -/

theorem byteAddr_eq_some_iff {chain : List CellId} {k x : Nat} :
    byteAddr chain k = some x ↔ ∃ c, chain[k / 64]? = some c ∧ c.val * 64 + k % 64 = x :=
  Option.map_eq_some_iff

theorem exists_byteAddr {chain : List CellId} {k : Nat} (h : k < 64 * chain.length) :
    ∃ x, byteAddr chain k = some x := by
  have inside : k / 64 < chain.length := by omega
  exact ⟨_, byteAddr_eq_some_iff.2 ⟨_, List.getElem?_eq_getElem inside, rfl⟩⟩

/-- In a chain of distinct cells, different positions have different addresses. -/
theorem byteAddr_inj {chain : List CellId} (hn : chain.Nodup) {j k x : Nat} (hj : byteAddr chain j = some x)
    (hk : byteAddr chain k = some x) : j = k := by
  obtain ⟨c, hc, rfl⟩ := byteAddr_eq_some_iff.1 hj
  obtain ⟨d, hd, hx⟩ := byteAddr_eq_some_iff.1 hk
  obtain rfl : d = c := Fin.ext (by omega)
  obtain ⟨inside, _⟩ := List.getElem?_eq_some_iff.1 hc
  have cell : j / 64 = k / 64 := (List.getElem?_inj inside hn).1 (hc.trans hd.symm)
  omega

theorem storeBytes_cons {chain : List CellId} {k a : Nat} (h : byteAddr chain k = some a) (b : Byte)
    (bytes : List Byte) (m : List Host.Cell) :
    storeBytes chain k (b :: bytes) m = storeBytes chain (k + 1) bytes (writeCell a b m) := by
  simp only [storeBytes, h]

theorem fetchBytes_succ {chain : List CellId} {k a : Nat} (h : byteAddr chain k = some a) (n : Nat)
    (m : List Host.Cell) : fetchBytes chain m k (n + 1) = readCell a m :: fetchBytes chain m (k + 1) n := by
  simp only [fetchBytes, h]

/-- Storing bytes changes no byte outside the positions stored at. -/
theorem readCell_storeBytes_of_ne {chain : List CellId} {x : Nat} (bytes : List Byte) {k : Nat} {m : List Host.Cell}
    (hm : cellsWf m = true) (hx : ∀ j, k ≤ j → j < k + bytes.length → byteAddr chain j ≠ some x) :
    readCell x (storeBytes chain k bytes m) = readCell x m := by
  induction bytes generalizing k m with
  | nil => rfl
  | cons b bytes ih =>
    have rest : ∀ j, k + 1 ≤ j → j < k + 1 + bytes.length → byteAddr chain j ≠ some x := fun j h1 h2 =>
      hx j (by omega) (by rw [List.length_cons]; omega)
    cases ha : byteAddr chain k with
    | none =>
      simp only [storeBytes, ha]
      exact ih hm rest
    | some a =>
      have ne : x ≠ a := fun e => hx k le_rfl (by simp) (e ▸ ha)
      rw [storeBytes_cons ha, ih (writeCell_wf a b hm) rest, readCell_writeCell a x b hm, if_neg ne]

/-- Bytes stored within a chain of distinct cells are read back. -/
theorem fetchBytes_storeBytes {chain : List CellId} (hn : chain.Nodup) (bytes : List Byte) {k : Nat}
    {m : List Host.Cell} (hm : cellsWf m = true) (hk : k + bytes.length ≤ 64 * chain.length) :
    fetchBytes chain (storeBytes chain k bytes m) k bytes.length = bytes := by
  induction bytes generalizing k m with
  | nil => rfl
  | cons b bytes ih =>
    rw [List.length_cons] at hk ⊢
    obtain ⟨a, ha⟩ := exists_byteAddr (chain := chain) (k := k) (by omega)
    have hw := writeCell_wf a b hm
    have first : readCell a (storeBytes chain (k + 1) bytes (writeCell a b m)) = b := by
      rw [readCell_storeBytes_of_ne bytes hw fun j h1 _ hj => ?_, readCell_writeCell a a b hm, if_pos rfl]
      have := byteAddr_inj hn hj ha
      omega
    rw [storeBytes_cons ha, fetchBytes_succ ha, first, ih hw (by omega)]

/-! ### All cells -/

theorem cellRun_eq (n k : Nat) : cellRun n k = (List.range' k n).map (Fin.ofNat 4096) := by
  induction n generalizing k with
  | zero => rfl
  | succ n ih => rw [cellRun, ih, List.range'_succ, List.map_cons]

theorem mem_allCells (c : CellId) : c ∈ cellRun 4096 0 := by
  rw [cellRun_eq]
  exact List.mem_map.2 ⟨c.val, List.mem_range'_1.2 ⟨c.val.zero_le, by omega⟩, Fin.ofNat_val_eq_self c⟩

theorem nodup_allCells : (cellRun 4096 0).Nodup := by
  rw [cellRun_eq]
  refine List.Nodup.map_on (fun a ha b hb hab => ?_) List.nodup_range'
  have hval := congrArg Fin.val hab
  simp only [Fin.val_ofNat] at hval
  have := List.mem_range'_1.1 ha
  have := List.mem_range'_1.1 hb
  omega

theorem mem_allocated {x : Pool} {c : CellId} : c ∈ x.allocated ↔ c ∉ x.freeList := by
  simp [Pool.allocated, mem_allCells]

theorem nodup_allocated (x : Pool) : x.allocated.Nodup := nodup_allCells.filter _

theorem mem_emptied_freeList (x : Pool) (c : CellId) : c ∈ x.emptied.freeList :=
  List.mem_append.2 ((em (c ∈ x.freeList)).imp_right mem_allocated.2)

theorem nodup_emptied_freeList {x : Pool} (h : x.freeList.Nodup) : x.emptied.freeList.Nodup :=
  List.nodup_append'.2 ⟨h, nodup_allocated x, fun _ hfree hal => mem_allocated.1 hal hfree⟩

/-- Every cell once makes 4096 cells (01 R1). -/
theorem length_emptied_freeList {x : Pool} (h : x.freeList.Nodup) : x.emptied.freeList.length = 4096 := by
  have all : x.emptied.freeList.toFinset = Finset.univ :=
    Finset.eq_univ_iff_forall.2 fun c => List.mem_toFinset.2 (mem_emptied_freeList x c)
  rw [← List.toFinset_card_of_nodup (nodup_emptied_freeList h), all, Finset.card_univ, Fintype.card_fin]

end Sys2Proof.Machine
end

section
/-! SUPPORT. SetBudget: its payload, and what each outcome of its parser brings (01 R14, R15). -/

namespace Sys2Proof.Machine

/-- A two-byte field reads back as it was written (10 R171). -/
theorem nat2_byte2 {n : Nat} (h : n < 65536) : nat2 (BitVec.ofNat 8 (n / 256)) (BitVec.ofNat 8 n) = n := by
  simp only [nat2, BitVec.toNat_ofNat]
  omega

theorem portField_eq_some_iff {b : Byte} {p : Port} : portField b = some p ↔ p.val = b.toNat := by
  unfold portField
  split
  · rw [Option.some.injEq, Fin.ext_iff, eq_comm]
  · have := p.isLt
    simp only [reduceCtorEq, false_iff]
    omega

/-- The arguments of a SetBudget, field by field, and their ranges (01 R14). -/
theorem parseBudget_eq_some_iff {b rh rl lh ll : Byte} {q : Port} {r l : Nat} :
    parseBudget [b, rh, rl, lh, ll] = some (q, r, l) ↔
      portField b = some q ∧ nat2 rh rl = r ∧ nat2 lh ll = l ∧ r ≤ l ∧ l ≤ 4096 := by
  simp only [parseBudget, Option.bind_eq_bind, Option.bind_eq_some_iff, Option.pure_def,
    Option.ite_none_right_eq_some, Option.some.injEq, Prod.mk.injEq]
  constructor
  · rintro ⟨_, hq, ⟨_, hl, hrl⟩, rfl, rfl, rfl⟩
    exact ⟨hq, rfl, rfl, hrl, hl⟩
  · rintro ⟨hq, rfl, rfl, hrl, hl⟩
    exact ⟨q, hq, ⟨hrl.trans hl, hl, hrl⟩, rfl, rfl, rfl⟩

/-- Only a payload of 5 bytes fits the layout of a SetBudget (10 R164). -/
theorem parseBudget_layout {payload : List Byte} {x : Port × Nat × Nat} (h : parseBudget payload = some x) :
    ∃ b rh rl lh ll, payload = [b, rh, rl, lh, ll] := by
  unfold parseBudget at h
  split at h
  · exact ⟨_, _, _, _, _, rfl⟩
  · cases h

theorem parseBudget_bounds {payload : List Byte} {q : Port} {r l : Nat}
    (h : parseBudget payload = some (q, r, l)) : r ≤ l ∧ l ≤ 4096 := by
  obtain ⟨b, rh, rl, lh, ll, rfl⟩ := parseBudget_layout h
  obtain ⟨_, _, _, hrl, hl⟩ := parseBudget_eq_some_iff.1 h
  exact ⟨hrl, hl⟩

/-- The payload of a SetBudget, as a master builds it (01 R14). -/
theorem parseBudget_bytes {b : Byte} {r l : Nat} (hr : r < 65536) (hl : l < 65536) {q : Port} {r' l' : Nat} :
    parseBudget ([b] ++ byte2 r ++ byte2 l) = some (q, r', l') ↔
      q.val = b.toNat ∧ r = r' ∧ l = l' ∧ r ≤ l ∧ l ≤ 4096 := by
  show parseBudget [b, _, _, _, _] = _ ↔ _
  rw [parseBudget_eq_some_iff, nat2_byte2 hr, nat2_byte2 hl, portField_eq_some_iff]
  constructor <;> rintro ⟨hq, rfl, rfl, hle⟩ <;> exact ⟨hq, rfl, rfl, hle⟩

/-- A SetBudget is held in Resetting and judged in Normal (01 R16). -/
theorem exec_setBudget_applied {s : State} {p : Port} {payload : List Byte} {rest : List PoolMsg}
    (h : s.links.toPool.sent .config = .setBudget p payload :: rest) :
    exec (.setBudget .applied) s = .next (
      if s.pool.resetting then holdPool (.setBudget p payload) (restPool .config rest s)
      else judgeBudget p payload (restPool .config rest s)) := by
  simp only [exec, execSetBudget, routedRequest, takeBudget, h]

theorem judgeBudget_of_none {p : Port} {payload : List Byte} {s : State} (h : parseBudget payload = none) :
    judgeBudget p payload s = reply p .range [] s := by
  simp only [judgeBudget, h]

theorem judgeBudget_of_some {p n : Port} {payload : List Byte} {r l : Nat} {s : State}
    (h : parseBudget payload = some (n, r, l)) :
    judgeBudget p payload s =
      if 4096 < portSum (sel (upd s.pool.reserve n r)) ∨
          sharedSize (upd s.pool.reserve n r) < sharedInUse s.pool.charge (upd s.pool.reserve n r) ∨
          l < sel s.pool.charge n then reply p .inUse [] s
      else reply p .ok [] (s.setPool
        { s.pool with reserve := upd s.pool.reserve n r, limit := upd s.pool.limit n l }) := by
  simp only [judgeBudget, h]

end Sys2Proof.Machine
end

section
/-! SUPPORT. The arbiter: which port it takes, and what it does with the request (01 R7 to R9). -/

namespace Sys2Proof.Machine

theorem arbiterOrder_eq (p : Port) : arbiterOrder p = (List.finRange 4).map (p + ·) := by
  revert p; decide

/-- The arbiter picks the first port from the pointer on that has a request standing (01 R9). -/
theorem arbiterPick_eq_some {x : Pool} {d : Port} (hp : (sel x.standing (x.pointer + d)).isSome)
    (first : ∀ e, e < d → sel x.standing (x.pointer + e) = none) : arbiterPick x = some (x.pointer + d) := by
  rw [arbiterPick, arbiterOrder_eq]
  refine List.find?_eq_some_iff_getElem.2 ⟨hp, d.val, by simp, by simp, fun j hj => ?_⟩
  simp [first ⟨j, by omega⟩ hj]

theorem exec_allocation_taken {s : State} {p : Port} {a : AllocReq} (hr : s.pool.resetting = false)
    (hp : arbiterPick s.pool = some p) (ha : sel s.pool.standing p = some a) :
    exec (.allocationRequest .taken) s = .next (arbitrate p a s) := by
  simp only [exec, execAllocationRequest, hr, hp, ha, Bool.false_eq_true, if_false]

/-- A request whose cells are over the limit of its port (01 R7). -/
theorem arbitrate_overLimit {s : State} {p : Port} {a : AllocReq} {args : PutArgs}
    (ho : sel s.pool.opening p = some args) (hl : sel s.pool.limit p < sel s.pool.charge p + a.cells) :
    arbitrate p a s = refuseCells p a .overLimit
      (s.setPool { s.pool with standing := upd s.pool.standing p none, pointer := p + 1 }) := by
  simp only [arbitrate, ho, Pool.admission, if_pos hl, nextPort]

theorem arbitrate_noSpace {s : State} {p : Port} {a : AllocReq} {args : PutArgs}
    (ho : sel s.pool.opening p = some args) (hl : ¬sel s.pool.limit p < sel s.pool.charge p + a.cells)
    (hs : sharedSize s.pool.reserve <
      sharedInUse (upd s.pool.charge p (sel s.pool.charge p + a.cells)) s.pool.reserve) :
    arbitrate p a s = refuseCells p a .noSpace
      (s.setPool { s.pool with standing := upd s.pool.standing p none, pointer := p + 1 }) := by
  simp only [arbitrate, ho, Pool.admission, if_neg hl, if_pos hs, nextPort]

theorem arbitrate_granted {s : State} {p : Port} {a : AllocReq} {args : PutArgs}
    (ho : sel s.pool.opening p = some args) (hl : ¬sel s.pool.limit p < sel s.pool.charge p + a.cells)
    (hs : ¬sharedSize s.pool.reserve <
      sharedInUse (upd s.pool.charge p (sel s.pool.charge p + a.cells)) s.pool.reserve) :
    arbitrate p a s = grantCells p a args
      (s.setPool { s.pool with standing := upd s.pool.standing p none, pointer := p + 1 }) := by
  simp only [arbitrate, ho, Pool.admission, if_neg hl, if_neg hs, nextPort]

/-- A granted PutOpen (03 R52). -/
theorem grantCells_putOpen (p : Port) (a : AllocReq) {args : PutArgs} (s : State) (h : args.data = none) :
    grantCells p a args s =
      poolDeferred p (reply p .ok (byte1 a.cells ++ byte2 (sel s.pool.charge p + a.cells)) (s.setPool { s.pool with
        freeList := s.pool.freeList.drop a.cells
        charge := upd s.pool.charge p (sel s.pool.charge p + a.cells)
        opening := upd s.pool.opening p none
        slot := upd s.pool.slot p (.filling
          { queue := args.queue, length := args.length, cls := args.cls, corr := args.corr, reply := args.reply
            fill := 0, chain := s.pool.freeList.take a.cells }) })) := by
  simp only [grantCells, h, Pool.grant, sel_upd_same]

/-- A granted Put (03 R59). -/
theorem grantCells_put (p : Port) (a : AllocReq) {args : PutArgs} {data : List Byte} (s : State)
    (h : args.data = some data) :
    grantCells p a args s =
      poolDeferred p (sendQueue .pool (.commit args.queue
          (newMessage p args.length args.cls args.corr args.reply (s.pool.freeList.take a.cells)))
        (s.setPool { s.pool with
          freeList := s.pool.freeList.drop a.cells
          charge := upd s.pool.charge p (sel s.pool.charge p + a.cells)
          opening := upd s.pool.opening p none
          cells := storeBytes (s.pool.freeList.take a.cells) 0 data s.pool.cells })) := by
  simp only [grantCells, h, Pool.grant]

end Sys2Proof.Machine
end

section
/-! SUPPORT. What the pool manager takes of a ResetPool, and the requests it judges in Normal (01 R16 to R19). -/

namespace Sys2Proof.Machine

theorem exec_resetStart {s : State} {p : Port} {rest : List PoolMsg}
    (h : s.links.toPool.sent .config = .resetPool p :: rest) :
    exec .resetStart s = .next (
      if s.pool.resetting then holdPool (.resetPool p) (restPool .config rest s)
      else startReset (restPool .config rest s)) := by
  simp only [exec, execResetStart, h]

/-- The cleared report of the queue engine or of the lease manager: noted, and with both the return-all step follows
(01 R17). -/
theorem exec_clearedReport {s : State} {b : Block} {src : Source} {rest : List PoolMsg}
    (hb : (b = .queue ∧ src = .queue) ∨ (b = .lease ∧ src = .lease))
    (h : s.links.toPool.sent src = .cleared :: rest) :
    exec (.clearedReport b) s = .next (
      let x := { s.pool with
        queueCleared := s.pool.queueCleared || b == .queue, leaseCleared := s.pool.leaseCleared || b == .lease }
      if x.queueCleared && x.leaseCleared then returnAll ((restPool src rest s).setPool x)
      else (restPool src rest s).setPool x) := by
  obtain ⟨rfl, rfl⟩ | ⟨rfl, rfl⟩ := hb <;>
    · simp only [exec, execClearedReport, h]
      rfl

theorem exec_putRequest_taken {s : State} (hr : s.pool.resetting = false) {p : Port} {r : Req} {c : Instr}
    {payload : List Byte} {rest : List PoolMsg}
    (hc : (r, c) ∈ [(Req.put, Instr.put (.taken p)), (.putOpen, .putOpen (.taken p)), (.putData, .putData (.taken p)),
      (.putCommit, .putCommit (.taken p)), (.putAbort, .putAbort (.taken p))])
    (h : s.links.toPool.sent (.port p) = .request p r payload :: rest) :
    exec c s = .next (judgePort p r payload (restPool (.port p) rest s)) := by
  have taken : exec c s = .next (takePort p r s) := by
    simp only [List.mem_cons, Prod.mk.injEq, List.not_mem_nil, or_false] at hc
    rcases hc with ⟨rfl, rfl⟩ | ⟨rfl, rfl⟩ | ⟨rfl, rfl⟩ | ⟨rfl, rfl⟩ | ⟨rfl, rfl⟩ <;> rfl
  rw [taken]
  simp [takePort, h, hr]

/-- The return-all step of a pool manager `x`, its parts written out (01 R17 to R19). -/
theorem returnAll_setPool (s : State) (x : Pool) : returnAll (s.setPool x) =
    let sent := sendConfig .pool .completion <| sendLease .pool .completion <| sendQueue .pool .completion <|
      s.setPool x.emptied
    let back := (arbiterOrder x.pointer).foldl sendBack (allPorts.foldl (fun s p => poolDeferred p s) sent)
    releaseHeld back.pool.held back := by
  simp only [returnAll, State.setPool_pool, State.setPool_setPool]

end Sys2Proof.Machine
end

section
/-! SUPPORT. The pool manager's two invariants, sound budgets and a canonical cell store: what keeps them, the pool
manager's operations one by one, then every command and every step. -/

namespace Sys2Proof.Machine

/-! ### What keeps the two invariants -/

/-- The pool of `t` is sound wherever the pool of `s` is: its budgets, and its cell store. -/
def PoolKept (s t : State) : Prop :=
  (BudgetsSound s.pool → BudgetsSound t.pool) ∧ (CellsSound s.pool → CellsSound t.pool)

theorem PoolKept.refl (s : State) : PoolKept s s := ⟨id, id⟩

theorem PoolKept.trans {s t u : State} (h : PoolKept s t) (k : PoolKept t u) : PoolKept s u :=
  ⟨k.1 ∘ h.1, k.2 ∘ h.2⟩

/-- The shared in use grows with the charges (01 R6). -/
theorem sharedInUse_mono {charge charge' : Vector Nat 4} (h : ∀ p, sel charge' p ≤ sel charge p)
    (reserve : Vector Nat 4) : sharedInUse charge' reserve ≤ sharedInUse charge reserve := by
  have h0 := h 0
  have h1 := h 1
  have h2 := h 2
  have h3 := h 3
  simp only [sharedInUse, portSum]
  omega

/-- Falling charges leave the budgets sound. -/
theorem BudgetsSound.of_charge_le {x y : Pool} (hx : BudgetsSound x) (hc : ∀ p, sel y.charge p ≤ sel x.charge p)
    (hr : y.reserve = x.reserve) (hl : y.limit = x.limit) : BudgetsSound y where
  reserves := hr ▸ hx.reserves
  ordered := hr ▸ hl ▸ hx.ordered
  limits := hl ▸ hx.limits
  charges p := hl ▸ (hc p).trans (hx.charges p)
  shared := hr ▸ (sharedInUse_mono hc x.reserve).trans hx.shared

/-- A charge that admission granted leaves the budgets sound (01 R7). -/
theorem BudgetsSound.of_granted {x y : Pool} {p : Port} {n : Nat} (hx : BudgetsSound x)
    (hg : x.admission p n = .granted) (hc : y.charge = upd x.charge p (sel x.charge p + n))
    (hr : y.reserve = x.reserve) (hl : y.limit = x.limit) : BudgetsSound y := by
  simp only [Pool.admission] at hg
  split at hg
  · cases hg
  · split at hg
    · cases hg
    · refine ⟨hr ▸ hx.reserves, hr ▸ hl ▸ hx.ordered, hl ▸ hx.limits, fun k => ?_, ?_⟩
      · rw [hc, hl, sel_upd]
        split
        · subst k; omega
        · exact hx.charges k
      · rw [hc, hr]; omega

/-- A SetBudget that was judged Ok leaves the budgets sound (01 R14, R15). -/
theorem BudgetsSound.of_budget {x y : Pool} {p : Port} {r l : Nat} (hx : BudgetsSound x) (hrl : r ≤ l)
    (hl4 : l ≤ 4096) (hl : sel x.charge p ≤ l) (hsum : portSum (sel y.reserve) ≤ 4096)
    (hshared : sharedInUse y.charge y.reserve ≤ sharedSize y.reserve) (hc : y.charge = x.charge)
    (hr : y.reserve = upd x.reserve p r) (hlim : y.limit = upd x.limit p l) : BudgetsSound y := by
  have ordered := hx.ordered
  have limits := hx.limits
  have charges := hx.charges
  refine ⟨hsum, fun k => ?_, fun k => ?_, fun k => ?_, hshared⟩ <;>
    simp only [hc, hr, hlim, sel_upd] <;> by_cases hk : p = k
  · simpa [hk]
  · simpa [hk] using ordered k
  · simpa [hk]
  · simpa [hk] using limits k
  · subst k; simpa
  · simpa [hk] using charges k

/-- Budgets and cell contents untouched. -/
theorem PoolKept.of_same {s t : State} (hc : t.pool.charge = s.pool.charge) (hr : t.pool.reserve = s.pool.reserve)
    (hl : t.pool.limit = s.pool.limit) (hm : t.pool.cells = s.pool.cells) : PoolKept s t :=
  ⟨fun h => h.of_charge_le (fun p => hc ▸ le_rfl) hr hl, fun h => by rw [CellsSound, hm]; exact h⟩

theorem PoolKept.of_pool_eq {s t : State} (h : t.pool = s.pool) : PoolKept s t :=
  .of_same (by rw [h]) (by rw [h]) (by rw [h]) (by rw [h])

/-- A charge falls, and nothing else of the budgets changes (01 R11). -/
theorem PoolKept.of_fall {s t : State} (p : Port) (n : Nat)
    (hc : t.pool.charge = upd s.pool.charge p (sel s.pool.charge p - n)) (hr : t.pool.reserve = s.pool.reserve)
    (hl : t.pool.limit = s.pool.limit) (hm : t.pool.cells = s.pool.cells) : PoolKept s t := by
  refine ⟨fun h => h.of_charge_le (fun k => ?_) hr hl, fun h => by rw [CellsSound, hm]; exact h⟩
  rw [hc, sel_upd]
  split
  · subst k; omega
  · exact le_rfl

/-! ### The pool manager's operations -/

theorem poolCleanup_kept (p : Port) (s : State) : PoolKept s (poolCleanup p s) := by
  simp only [poolCleanup]
  split
  next => exact .of_same rfl rfl rfl rfl
  next =>
    split
    next => exact .of_same rfl rfl rfl rfl
    next a _ =>
      split
      next => exact .of_same rfl rfl rfl rfl
      next => exact .of_fall p a.chain.length rfl rfl rfl rfl

theorem poolDeferred_kept (p : Port) (s : State) : PoolKept s (poolDeferred p s) := by
  simp only [poolDeferred]
  split
  · exact poolCleanup_kept p s
  · exact .refl s

/-- What is kept stays kept by a deferred cleanup. -/
theorem PoolKept.deferred {s t : State} (p : Port) (h : PoolKept s t) : PoolKept s (poolDeferred p t) :=
  h.trans (poolDeferred_kept p t)

theorem slotCheck_kept (p : Port) (args : Option PutArgs) (s : State) : PoolKept s (slotCheck p args s) := by
  simp only [slotCheck]
  split
  · exact .deferred p (.of_same rfl rfl rfl rfl)
  · exact .deferred p (.of_same rfl rfl rfl rfl)
  · exact .of_same rfl rfl rfl rfl

theorem judgePutData_kept (p : Port) (payload : List Byte) (s : State) :
    PoolKept s (judgePutData p payload s) := by
  simp only [judgePutData]
  repeat' split
  · exact .of_same rfl rfl rfl rfl
  · exact .of_same rfl rfl rfl rfl
  · exact .of_same rfl rfl rfl rfl
  · exact .of_same rfl rfl rfl rfl
  · exact ⟨fun h => h.of_charge_le (fun _ => le_rfl) rfl rfl, storeBytes_wf _ _ _⟩

theorem judgePutCommit_kept (p : Port) (payload : List Byte) (s : State) :
    PoolKept s (judgePutCommit p payload s) := by
  simp only [judgePutCommit]
  repeat' split
  all_goals exact .of_same rfl rfl rfl rfl

theorem judgePutAbort_kept (p : Port) (payload : List Byte) (s : State) :
    PoolKept s (judgePutAbort p payload s) := by
  simp only [judgePutAbort]
  split
  next => exact .of_same rfl rfl rfl rfl
  next =>
    split
    next => exact .of_same rfl rfl rfl rfl
    next a _ => exact .of_fall p a.chain.length rfl rfl rfl rfl

theorem judgePort_kept (p : Port) (r : Req) (payload : List Byte) (s : State) :
    PoolKept s (judgePort p r payload s) := by
  simp only [judgePort]
  split
  · exact slotCheck_kept ..
  · exact slotCheck_kept ..
  · exact judgePutData_kept ..
  · exact judgePutCommit_kept ..
  · exact judgePutAbort_kept ..
  · exact .refl s

theorem judgeBudget_kept (p : Port) (payload : List Byte) (s : State) :
    PoolKept s (judgeBudget p payload s) := by
  simp only [judgeBudget]
  split
  next => exact .of_same rfl rfl rfl rfl
  next q r l hp =>
    obtain ⟨hrl, hl4⟩ := parseBudget_bounds hp
    split
    next => exact .of_same rfl rfl rfl rfl
    next hok =>
      simp only [not_or, not_lt] at hok
      obtain ⟨hsum, hshared, hl⟩ := hok
      exact ⟨fun h => h.of_budget hrl hl4 hl hsum hshared rfl rfl rfl, id⟩

theorem startReset_kept (s : State) : PoolKept s (startReset s) := .of_same rfl rfl rfl rfl

theorem holdPool_kept (x : PoolMsg) (s : State) : PoolKept s (holdPool x s) := .of_same rfl rfl rfl rfl

theorem restPool_kept (src : Source) (l : List PoolMsg) (s : State) : PoolKept s (restPool src l s) :=
  .of_same rfl rfl rfl rfl

theorem takePort_kept (p : Port) (r : Req) (s : State) : PoolKept s (takePort p r s) := by
  simp only [takePort]
  repeat' split
  · exact (restPool_kept ..).trans (holdPool_kept ..)
  · exact (restPool_kept ..).trans (judgePort_kept ..)
  · exact .refl s
  · exact .refl s

theorem takeBudget_kept (s : State) : PoolKept s (takeBudget s) := by
  simp only [takeBudget]
  repeat' split
  · exact (restPool_kept ..).trans (holdPool_kept ..)
  · exact (restPool_kept ..).trans (judgeBudget_kept ..)
  · exact .refl s

theorem sendBack_kept (s : State) (p : Port) : PoolKept s (sendBack s p) := by
  simp only [sendBack]
  split <;> exact .of_same rfl rfl rfl rfl

theorem releaseHeld_kept (l : List PoolMsg) (s : State) : PoolKept s (releaseHeld l s) := by
  induction l generalizing s with
  | nil => exact .refl s
  | cons m l ih =>
    have held : PoolKept s (s.setPool { s.pool with held := l }) := .of_same rfl rfl rfl rfl
    simp only [releaseHeld]
    split
    · exact (held.trans (judgePort_kept ..)).trans (ih _)
    · exact (held.trans (judgeBudget_kept ..)).trans (ih _)
    · exact held.trans (startReset_kept _)
    · exact held.trans (ih _)

/-- The emptied pool, every charge of which is 0. -/
theorem emptied_kept (s : State) : PoolKept s (s.setPool s.pool.emptied) :=
  ⟨fun h => h.of_charge_le (fun p => by simp [Pool.emptied]) rfl rfl, id⟩

theorem returnAll_kept (s : State) : PoolKept s (returnAll s) := by
  have sent : ∀ t : State, PoolKept t
      (sendConfig .pool .completion <| sendLease .pool .completion <| sendQueue .pool .completion t) :=
    fun t => .of_same rfl rfl rfl rfl
  have deferred := foldl_step PoolKept.refl PoolKept.trans (fun s p => poolDeferred_kept p s) allPorts
  have back := foldl_step PoolKept.refl PoolKept.trans sendBack_kept (arbiterOrder s.pool.pointer)
  exact ((((emptied_kept s).trans (sent _)).trans (deferred _)).trans (back _)).trans (releaseHeld_kept ..)

theorem noteCleared_kept (queue : Bool) (s : State) : PoolKept s (noteCleared queue s) := by
  have noted : ∀ a b, PoolKept s (s.setPool { s.pool with queueCleared := a, leaseCleared := b }) :=
    fun _ _ => .of_same rfl rfl rfl rfl
  simp only [noteCleared]
  split
  · exact (noted ..).trans (returnAll_kept _)
  · exact noted ..

theorem refuseCells_kept (p : Port) (a : AllocReq) (st : Status) (s : State) :
    PoolKept s (refuseCells p a st s) :=
  .deferred p (.of_same rfl rfl rfl rfl)

theorem grantCells_kept {p : Port} {a : AllocReq} (args : PutArgs) {s : State}
    (h : s.pool.admission p a.cells = .granted) : PoolKept s (grantCells p a args s) := by
  simp only [grantCells]
  split
  · exact .deferred p ⟨fun hs => hs.of_granted h rfl rfl rfl, id⟩
  · exact .deferred p ⟨fun hs => hs.of_granted h rfl rfl rfl, storeBytes_wf _ _ _⟩

theorem arbitrate_kept (p : Port) (a : AllocReq) (s : State) : PoolKept s (arbitrate p a s) := by
  have taken : PoolKept s (s.setPool
      { s.pool with standing := upd s.pool.standing p none, pointer := nextPort p }) := .of_same rfl rfl rfl rfl
  simp only [arbitrate]
  split
  · exact taken
  · split
    next => exact taken.trans (refuseCells_kept ..)
    next => exact taken.trans (refuseCells_kept ..)
    next hg => exact taken.trans (grantCells_kept _ hg)

/-- The pool at reset has sound budgets (01 R20). -/
theorem reset_budgetsSound : BudgetsSound State.reset.pool where
  reserves := by simp [State.reset, Pool.reset, portSum]
  ordered p := by simp [State.reset, Pool.reset]
  limits p := by simp [State.reset, Pool.reset]
  charges p := by simp [State.reset, Pool.reset]
  shared := by simp [State.reset, Pool.reset, portSum, sharedInUse]

/-! ### The commands -/

/-- The commands that can change the pool manager: those it carries out itself, and device reset; RESET_RELEASE stands
here because `scopeOf` leaves it to its meaning. -/
inductive ReachesPool : Instr → Prop
  | put (p : Port) : ReachesPool (.put (.taken p))
  | putOpen (p : Port) : ReachesPool (.putOpen (.taken p))
  | putData (p : Port) : ReachesPool (.putData (.taken p))
  | putCommit (p : Port) : ReachesPool (.putCommit (.taken p))
  | putAbort (p : Port) : ReachesPool (.putAbort (.taken p))
  | setBudget : ReachesPool (.setBudget .applied)
  | sessionEnd (p : Port) : ReachesPool (.poolSessionEnd p)
  | attach (p : Port) : ReachesPool (.poolAttach p)
  | refusal : ReachesPool .queueCheckRefusal
  | allocation (h : AllocStep) : ReachesPool (.allocationRequest h)
  | release (src : Block) : ReachesPool (.releaseRequest src)
  | commitAnswer : ReachesPool .commitAnswer
  | resetStart : ReachesPool .resetStart
  | cleared (src : Block) : ReachesPool (.clearedReport src)
  | deviceReset : ReachesPool .deviceReset
  | resetRelease : ReachesPool .resetRelease

/-- Every other command leaves the pool manager as it is. -/
theorem pool_eq_or_reachesPool {c : Instr} {s t : State} (h : scopeOf c s t) : t.pool = s.pool ∨ ReachesPool c := by
  unfold scopeOf at h
  split at h
  all_goals first
    | exact .inl h.1
    | exact .inr (by constructor)

theorem poolSessionEnd_kept {p : Port} {s t : State} (h : exec (.poolSessionEnd p) s = .next t) : PoolKept s t := by
  cases h
  repeat' split
  · exact (restPool_kept ..).trans (poolCleanup_kept ..)
  · exact .refl s
  · exact .refl s

theorem poolAttach_kept {p : Port} {s t : State} (h : exec (.poolAttach p) s = .next t) : PoolKept s t := by
  cases h
  repeat' split
  all_goals exact .of_same rfl rfl rfl rfl

theorem queueCheckRefusal_kept {s t : State} (h : exec .queueCheckRefusal s = .next t) : PoolKept s t := by
  cases h
  split
  · exact .deferred _ (.of_same rfl rfl rfl rfl)
  · exact .refl s

theorem allocationRequest_kept {a : AllocStep} {s t : State} (h : exec (.allocationRequest a) s = .next t) :
    PoolKept s t := by
  cases h
  cases a with
  | arrives =>
    dsimp only
    split
    · exact .of_same rfl rfl rfl rfl
    · exact .refl s
  | taken =>
    dsimp only
    split
    · exact .refl s
    · split
      · exact .refl s
      · split
        · exact arbitrate_kept ..
        · exact .refl s

theorem releaseRequest_kept {src : Block} {s t : State} (h : exec (.releaseRequest src) s = .next t) :
    PoolKept s t := by
  cases h
  split
  · split
    next p chain _ _ => exact .of_fall p chain.length rfl rfl rfl rfl
    next => exact .refl s
  · exact .refl s

theorem commitAnswer_kept {s t : State} (h : exec .commitAnswer s = .next t) : PoolKept s t := by
  cases h
  split <;> exact .of_same rfl rfl rfl rfl

theorem resetStart_kept {s t : State} (h : exec .resetStart s = .next t) : PoolKept s t := by
  cases h
  repeat' split
  · exact (restPool_kept ..).trans (holdPool_kept ..)
  · exact (restPool_kept ..).trans (startReset_kept _)
  · exact .refl s

theorem clearedReport_kept {src : Block} {s t : State} (h : exec (.clearedReport src) s = .next t) :
    PoolKept s t := by
  cases h
  repeat' split
  · exact (restPool_kept ..).trans (noteCleared_kept ..)
  · exact .refl s
  · exact (restPool_kept ..).trans (noteCleared_kept ..)
  · exact .refl s
  · exact .refl s

theorem exec_kept {c : Instr} {s t : State} (h : exec c s = .next t) : PoolKept s t := by
  obtain ⟨u, hu, scope⟩ := exec_scope c s
  obtain rfl : u = t := by simpa [hu] using h
  rcases pool_eq_or_reachesPool scope with same | reaches
  · exact .of_pool_eq same
  · cases reaches with
    | put | putOpen | putData | putCommit | putAbort => cases h; exact takePort_kept ..
    | setBudget => cases h; exact takeBudget_kept s
    | sessionEnd => exact poolSessionEnd_kept h
    | attach => exact poolAttach_kept h
    | refusal => exact queueCheckRefusal_kept h
    | allocation => exact allocationRequest_kept h
    | release => exact releaseRequest_kept h
    | commitAnswer => exact commitAnswer_kept h
    | resetStart => exact resetStart_kept h
    | cleared => exact clearedReport_kept h
    | deviceReset => cases h; exact ⟨fun _ => reset_budgetsSound, fun _ => reset_cells_wf⟩
    | resetRelease => cases h; exact .of_same rfl rfl rfl rfl

theorem step_kept {s t : State} (h : step s = .next t) : PoolKept s t := by
  unfold step at h
  split at h
  next => cases h; exact .refl s
  next c rest _ =>
    have front : PoolKept s { s with pending := rest } := .of_same rfl rfl rfl rfl
    exact front.trans (exec_kept h)

end Sys2Proof.Machine
end

section
/-! SUPPORT. The state after reset, block by block. -/

namespace Sys2Proof.Machine

theorem reset_queue (q : QueueId) : State.reset.queue q = Queue.reset := sel_replicate _ q

theorem reset_port (p : Port) : State.reset.port p = PortCtl.reset := sel_replicate _ p

theorem Queue.reset_sound : QueueSound Queue.reset where
  depth := by decide
  low := by decide
  period := by decide
  limit := by decide
  producers h := absurd rfl h
  dropped := by decide
  order := List.Pairwise.nil

theorem reset_queuesSound : QueuesSound State.reset where
  records q := reset_queue q ▸ Queue.reset_sound
  deadLetter q d hq _ := absurd (by rw [reset_queue]; rfl) hq

theorem reset_leasesSound (p : Port) : LeasesSound State.reset.leases p := by
  have none_held : sel State.reset.leases.lists p = [] := sel_replicate _ p
  have no_take : sel State.reset.leases.takes p = none := sel_replicate _ p
  have counter : sel State.reset.leases.counter p = 1 := sel_replicate _ p
  exact ⟨by simp [none_held], by simp [none_held], by simp [none_held], by simp [counter, LeaseIdOk],
    by simp [no_take]⟩

theorem reset_notesSound (p : Port) : NotesSound (sel State.reset.notify.queues p) := by
  have disabled : sel State.reset.notify.queues p = { enabled := false, entries := [] } := sel_replicate _ p
  rw [disabled]
  exact ⟨fun _ => rfl, by simp, by simp, by simp, by simp⟩

theorem reset_signalsSound : SignalsSound State.reset.notify := fun p => by
  simp [State.reset, Notify.reset, signalSlot]

theorem PortCtl.reset_sound : PortSound PortCtl.reset where
  timer _ h := by cases h
  attaching h := by cases h
  closing := by simp [PortCtl.reset]
  waits _ h := by cases h
  receiving := by simp [PortCtl.reset]

end Sys2Proof.Machine
end

section
/-! The statements about the pool manager and its budgets, and the state after reset. -/

namespace Sys2Proof.Machine

/-- Settles O55: each operation of the pool manager keeps both invariants, and no other command reaches the pool. -/
theorem stepKeepsThePool : Obligations.StepKeepsThePool :=
  ⟨fun _ _ h => step_kept h, fun x => cellsWf_iff x.cells⟩

/-- Settles O18: the branches of admission one by one; storing and fetching bytes by induction on the bytes. -/
theorem allocationArbitrated : Obligations.AllocationArbitrated := by
  unfold Obligations.AllocationArbitrated
  refine ⟨fun s p a rest h => ?_, fun s hr => ?_, fun s p d a args hr hp ha first ho => ?_,
    fun chain data cells hw hn hl => ⟨storeBytes_wf chain 0 data hw, fetchBytes_storeBytes hn data hw (by omega),
      fun x hx => readCell_storeBytes_of_ne data hw fun k _ hk => hx k (by omega)⟩⟩
  · simp only [exec, execAllocationRequest, h]
  · simp only [exec, execAllocationRequest, hr, if_true]
  · have pick : arbiterPick s.pool = some p := hp ▸ arbiterPick_eq_some (by simp [← hp, ha]) first
    rw [exec_allocation_taken hr pick ha]
    simp only [sel_upd_same]
    by_cases hl : sel s.pool.limit p < sel s.pool.charge p + a.cells
    · rw [arbitrate_overLimit ho hl, if_pos hl]
      rfl
    · rw [if_neg hl]
      by_cases hs : sharedSize s.pool.reserve <
          sharedInUse (upd s.pool.charge p (sel s.pool.charge p + a.cells)) s.pool.reserve
      · rw [arbitrate_noSpace ho hl hs]
        exact congrArg _ (if_pos hs).symm
      · rw [arbitrate_granted ho hl hs]
        refine congrArg _ (Eq.trans ?_ (if_neg hs).symm)
        cases hd : args.data with
        | none => rw [grantCells_putOpen _ _ _ hd]; rfl
        | some data => rw [grantCells_put _ _ _ hd]; rfl

/-- Settles O20: hold or judgement, then the judgement for each outcome of the parser. -/
theorem setBudgetJudged : Obligations.SetBudgetJudged := by
  intro s p payload rest h
  refine ⟨fun hr => ?_, fun hr hp => ?_, fun n r l hr hp => ?_,
    fun b r l hr hl => ⟨fun bad => ?_, fun n hn hrl hl4 => ?_⟩, fun hlen => ?_, fun _ => rfl⟩
  · rw [exec_setBudget_applied h, if_pos hr]
    rfl
  · rw [exec_setBudget_applied h, if_neg (by simp [hr]), judgeBudget_of_none hp]
  · rw [exec_setBudget_applied h, if_neg (by simp [hr]), judgeBudget_of_some hp]
    rfl
  · refine Option.eq_none_iff_forall_ne_some.2 fun ⟨q, r', l'⟩ hsome => ?_
    obtain ⟨hq, _, _, hrl, hl4⟩ := (parseBudget_bytes hr hl).1 hsome
    have := q.isLt
    omega
  · exact (parseBudget_bytes hr hl).2 ⟨hn, rfl, rfl, hrl, hl4⟩
  · refine Option.eq_none_iff_forall_ne_some.2 fun x hsome => hlen ?_
    obtain ⟨_, _, _, _, _, rfl⟩ := parseBudget_layout hsome
    rfl

/-- Settles O21: an equation for each command and each part of the return-all step. -/
theorem poolResetStartAndReturnAll : Obligations.PoolResetStartAndReturnAll := by
  unfold Obligations.PoolResetStartAndReturnAll
  refine ⟨fun s p rest h => exec_resetStart h, fun s b src rest hb h => ?_, fun x => ⟨rfl, ⟨x.allocated, rfl⟩,
      mem_emptied_freeList x, fun hn => ⟨nodup_emptied_freeList hn, length_emptied_freeList hn⟩⟩, rfl, fun p => ?_,
    fun u p => ⟨fun hp => ?_, fun a ha => ?_⟩, fun u more p r payload => ⟨rfl, rfl, rfl, rfl⟩,
    fun u p payload hp => ⟨?_, ?_, ?_⟩,
    fun u p payload l hr => ⟨fun r c hc h => exec_putRequest_taken hr hc h, fun h => ?_⟩⟩
  · rw [exec_clearedReport hb h]
    simp only [returnAll_setPool]
  · revert p; decide
  · simp only [sendBack, hp]
  · simp only [sendBack, ha]
  · simp only [judgePort, judgePutData, hp]
  · simp only [judgePort, judgePutCommit, hp]
    rfl
  · simp only [judgePort, judgePutAbort, hp]
    rfl
  · rw [exec_setBudget_applied h, if_neg (by simp [hr])]

/-- Settles O60: every block's reset value meets its own invariant. -/
theorem resetStateIsSound : Obligations.ResetStateIsSound :=
  ⟨reset_budgetsSound, reset_cells_wf, reset_queuesSound, reset_leasesSound, reset_notesSound, reset_signalsSound,
    fun p => reset_port p ▸ PortCtl.reset_sound, rfl⟩

end Sys2Proof.Machine
end

section
/-! SUPPORT. The lists of the queues: where a message joins (02 R28), and that the class order is kept. -/

namespace Sys2Proof.Machine

/-- Urgent messages followed by normal ones stand in class order. -/
theorem ClassOrder.append {u n : List Message} (hu : ∀ x ∈ u, x.cls = .urgent) (hn : ∀ x ∈ n, x.cls = .normal) :
    ClassOrder (u ++ n) :=
  List.pairwise_append.2 ⟨List.pairwise_of_forall_mem_list fun x hx _ _ hc => by simp [hu x hx] at hc,
    List.pairwise_of_forall_mem_list fun _ _ y hy _ => hn y hy, fun _ _ y hy _ => hn y hy⟩

/-- Behind a normal message all are normal. -/
theorem ClassOrder.normal_of_head {x : Message} {l : List Message} (h : ClassOrder (x :: l)) (hx : x.cls = .normal) :
    ∀ y ∈ x :: l, y.cls = .normal :=
  List.forall_mem_cons.2 ⟨hx, fun y hy => (List.pairwise_cons.1 h).1 y hy hx⟩

theorem filter_urgent_of_normal {l : List Message} (h : ∀ y ∈ l, y.cls = .normal) :
    l.filter (·.cls = .urgent) = [] :=
  List.filter_eq_nil_iff.2 fun y hy => by simp [h y hy]

theorem filter_normal_of_normal {l : List Message} (h : ∀ y ∈ l, y.cls = .normal) :
    l.filter (·.cls = .normal) = l :=
  List.filter_eq_self.2 fun y hy => by simp [h y hy]

theorem joinTail_of_normal {m : Message} (hm : m.cls ≠ .urgent) (l : List Message) : joinTail m l = l ++ [m] := by
  induction l with
  | nil => rfl
  | cons x l ih => simp only [joinTail, hm, false_and, if_false, ih, List.cons_append]

/-- An urgent message joins behind the urgent ones and before the normal ones (02 R28). -/
theorem joinTail_of_urgent {m : Message} (hm : m.cls = .urgent) {l : List Message} (h : ClassOrder l) :
    joinTail m l = l.filter (·.cls = .urgent) ++ m :: l.filter (·.cls = .normal) := by
  induction l with
  | nil => rfl
  | cons x l ih =>
    cases hx : x.cls with
    | normal =>
      have all := h.normal_of_head hx
      rw [filter_urgent_of_normal all, filter_normal_of_normal all]
      simp [joinTail, hm, hx]
    | urgent => simp [joinTail, hx, ih (List.pairwise_cons.1 h).2]

theorem joinHead_of_urgent {m : Message} (hm : m.cls = .urgent) (l : List Message) : joinHead m l = m :: l := by
  cases l <;> simp [joinHead, hm]

/-- A normal message joins behind the urgent ones and before the other normal ones (02 R28). -/
theorem joinHead_of_normal {m : Message} (hm : m.cls = .normal) {l : List Message} (h : ClassOrder l) :
    joinHead m l = l.filter (·.cls = .urgent) ++ m :: l.filter (·.cls = .normal) := by
  induction l with
  | nil => rfl
  | cons x l ih =>
    cases hx : x.cls with
    | normal =>
      have all := h.normal_of_head hx
      rw [filter_urgent_of_normal all, filter_normal_of_normal all]
      simp [joinHead, hx]
    | urgent => simp [joinHead, hm, hx, ih (List.pairwise_cons.1 h).2]

theorem MsgClass.eq_normal_of_ne_urgent {c : MsgClass} (h : c ≠ .urgent) : c = .normal := by
  cases c with
  | normal => rfl
  | urgent => exact absurd rfl h

theorem joinTail_eq (m : Message) {l : List Message} (h : ClassOrder l) :
    joinTail m l = if m.cls = .urgent then l.filter (·.cls = .urgent) ++ m :: l.filter (·.cls = .normal)
      else l ++ [m] := by
  split
  next hm => exact joinTail_of_urgent hm h
  next hm => exact joinTail_of_normal hm l

theorem joinHead_eq (m : Message) {l : List Message} (h : ClassOrder l) :
    joinHead m l = if m.cls = .urgent then m :: l
      else l.filter (·.cls = .urgent) ++ m :: l.filter (·.cls = .normal) := by
  split
  next hm => exact joinHead_of_urgent hm l
  next hm => exact joinHead_of_normal (MsgClass.eq_normal_of_ne_urgent hm) h

theorem urgent_of_mem_filter {l : List Message} : ∀ x ∈ l.filter (·.cls = .urgent), x.cls = .urgent := by simp

theorem normal_of_mem_filter {l : List Message} : ∀ x ∈ l.filter (·.cls = .normal), x.cls = .normal := by simp

/-- A message that joins the tail of its class keeps the class order. -/
theorem ClassOrder.joinTail (m : Message) {l : List Message} (h : ClassOrder l) : ClassOrder (joinTail m l) := by
  rw [joinTail_eq m h]
  split
  next hm =>
    rw [List.append_cons]
    exact .append (List.forall_mem_append.2 ⟨urgent_of_mem_filter, by simpa⟩) normal_of_mem_filter
  next hm => exact List.pairwise_append.2 ⟨h, List.pairwise_singleton .., fun _ _ y hy _ => by
      simpa [List.mem_singleton.1 hy] using MsgClass.eq_normal_of_ne_urgent hm⟩

/-- A message that joins the head of its class keeps the class order. -/
theorem ClassOrder.joinHead (m : Message) {l : List Message} (h : ClassOrder l) : ClassOrder (joinHead m l) := by
  rw [joinHead_eq m h]
  split
  next hm => exact List.pairwise_cons.2 ⟨fun _ _ hc => by simp [hm] at hc, h⟩
  next hm =>
    exact .append urgent_of_mem_filter
      (List.forall_mem_cons.2 ⟨MsgClass.eq_normal_of_ne_urgent hm, normal_of_mem_filter⟩)

end Sys2Proof.Machine
end

section
/-! SUPPORT. The payloads of the queue requests: the fields, and what DefineQueue and SetQueue read from them (02 R25,
R43). -/

namespace Sys2Proof.Machine

theorem queueField_eq_some_iff {b : Byte} {q : QueueId} : queueField b = some q ↔ q.val = b.toNat := by
  unfold queueField
  split
  · rw [Option.some.injEq, Fin.ext_iff, eq_comm]
  · have := q.isLt
    simp only [reduceCtorEq, false_iff]
    omega

/-- A payload of one queue id is one byte that names a queue (10 R164). -/
theorem parseQueue_eq_some_iff {payload : List Byte} {q : QueueId} :
    parseQueue payload = some q ↔ ∃ b, payload = [b] ∧ b.toNat = q.val := by
  unfold parseQueue
  split
  next b => simp [queueField_eq_some_iff, eq_comm (a := q.val)]
  next other => exact iff_of_false (by simp) fun ⟨b, hb, _⟩ => other b hb

theorem toNat_le_one_iff {b : Byte} : b.toNat ≤ 1 ↔ b = 0 ∨ b = 1 := by
  simp only [← BitVec.toNat_inj, BitVec.ofNat_eq_ofNat, BitVec.toNat_ofNat]
  omega

/-- A field with the values 0 and 1 (10 R171). -/
theorem zeroOneField_eq_some_iff {α : Type} {b : Byte} {x y z : α} :
    (if b = 0 then some x else if b = 1 then some y else none) = some z ↔
      b.toNat ≤ 1 ∧ z = if b = 0 then x else y := by
  rw [toNat_le_one_iff, eq_comm (a := z)]
  by_cases h0 : b = 0
  · simp only [h0, if_true, true_or, true_and, Option.some.injEq]
  · simp only [h0, if_false, false_or, Option.ite_none_right_eq_some, Option.some.injEq]

theorem modeField_eq_some_iff {b : Byte} {m : Delivery} :
    modeField b = some m ↔ b.toNat ≤ 1 ∧ m = if b = 0 then .confirmed else .streamed :=
  zeroOneField_eq_some_iff

theorem producerEndField_eq_some_iff {b : Byte} {e : ProducerEnd} :
    producerEndField b = some e ↔ b.toNat ≤ 1 ∧ e = if b = 0 then .keep else .purge :=
  zeroOneField_eq_some_iff

theorem and_highNibble_eq_zero_iff (b : Byte) : b &&& 0xF0 = 0 ↔ b.toNat ≤ 15 := by
  revert b; decide

/-- A producer set field names ports 0 to 3 only, and at least one (02 R25; assumption 18). -/
theorem producersField_eq_some_iff {b : Byte} {x : BitVec 4} :
    producersField b = some x ↔ 1 ≤ b.toNat ∧ b.toNat ≤ 15 ∧ x = b.extractLsb' 0 4 := by
  have nonzero : b ≠ 0 ↔ 1 ≤ b.toNat := by
    rw [ne_eq, ← BitVec.toNat_inj]
    exact Nat.one_le_iff_ne_zero.symm
  simp only [producersField, and_highNibble_eq_zero_iff, nonzero, Option.ite_none_right_eq_some, Option.some.injEq,
    eq_comm (b := x), and_comm (a := b.toNat ≤ 15), and_assoc]

theorem producersField_ne_zero {b : Byte} {x : BitVec 4} (h : producersField b = some x) : x ≠ 0 := by
  obtain ⟨h1, h15, rfl⟩ := producersField_eq_some_iff.1 h
  rw [ne_eq, ← BitVec.toNat_inj, BitVec.extractLsb'_toNat]
  simp only [Nat.shiftRight_zero, BitVec.ofNat_eq_ofNat, BitVec.toNat_ofNat]
  omega

/-- 0xFF names no dead-letter queue (assumption 17). -/
theorem deadLetterField_eq_some_iff {b : Byte} {d : Option QueueId} :
    deadLetterField b = some d ↔ (b = 0xFF ∧ d = none) ∨ ∃ q : QueueId, d = some q ∧ q.val = b.toNat := by
  unfold deadLetterField
  split
  next hb =>
    have far : ¬∃ q : QueueId, d = some q ∧ q.val = b.toNat := fun ⟨q, _, hq⟩ =>
      absurd (hb ▸ hq) (q.isLt.trans (by decide)).ne
    rw [or_iff_left far, and_iff_right hb, Option.some.injEq, eq_comm]
  next hb =>
    simp only [hb, false_and, false_or, Option.map_eq_some_iff, queueField_eq_some_iff]
    exact exists_congr fun q => and_comm.trans (and_congr_left' eq_comm)

/-- The ranges of the settable fields, one by one (02 R25). -/
theorem Settable.inRange_iff {x : Settable} : x.inRange = true ↔
    (1 ≤ x.depth ∧ x.depth ≤ 1024 ∧ x.high ≤ x.depth) ∧
      ((x.high = 0 → x.low = 0) ∧ (x.high ≠ 0 → x.low < x.high)) ∧
      (1 ≤ x.period ∧ x.period ≤ 65535) ∧ 1 ≤ x.limit ∧ x.limit ≤ 15 := by
  unfold Settable.inRange
  by_cases h : x.high = 0 <;> simp [h, and_assoc]

/-- The arguments of a DefineQueue, field by field (02 R25, 10 section 10.7.2). -/
theorem parseDefine_eq_some_iff {q c ps dh dl hh hl wh wl lh ll rl dm pe dq : Byte} {k : QueueId} {d : Definition} :
    parseDefine [q, c, ps, dh, dl, hh, hl, wh, wl, lh, ll, rl, dm, pe, dq] = some (k, d) ↔
      (queueField q = some k ∧ portField c = some d.consumer ∧ producersField ps = some d.settable.producers ∧
        modeField dm = some d.mode ∧ producerEndField pe = some d.settable.producerEnd ∧
        deadLetterField dq = some d.deadLetter) ∧
      (nat2 dh dl = d.settable.depth ∧ nat2 hh hl = d.settable.high ∧ nat2 wh wl = d.settable.low ∧
        nat2 lh ll = d.settable.period ∧ rl.toNat = d.settable.limit) ∧
      d.settable.inRange ∧ d.deadLetter ≠ some k := by
  simp only [parseDefine, Option.bind_eq_bind, Option.bind_eq_some_iff, Option.pure_def,
    Option.ite_none_right_eq_some, Option.some.injEq, Prod.mk.injEq]
  constructor
  · rintro ⟨_, hq, _, hc, _, hps, _, hm, _, he, _, hd, ok, rfl, rfl⟩
    exact ⟨⟨hq, hc, hps, hm, he, hd⟩, ⟨rfl, rfl, rfl, rfl, rfl⟩, ok⟩
  · obtain ⟨consumer, ⟨producers, depth, high, low, period, limit, producerEnd⟩, mode, deadLetter⟩ := d
    rintro ⟨⟨hq, hc, hps, hm, he, hd⟩, ⟨rfl, rfl, rfl, rfl, rfl⟩, ok⟩
    exact ⟨k, hq, consumer, hc, producers, hps, mode, hm, producerEnd, he, deadLetter, hd, ok, rfl, rfl⟩

/-- The arguments of a SetQueue, field by field (02 R43, 10 section 10.7.2). -/
theorem parseSet_eq_some_iff {q ps dh dl hh hl wh wl lh ll rl pe : Byte} {k : QueueId} {x : Settable} :
    parseSet [q, ps, dh, dl, hh, hl, wh, wl, lh, ll, rl, pe] = some (k, x) ↔
      (queueField q = some k ∧ producersField ps = some x.producers ∧ producerEndField pe = some x.producerEnd) ∧
      (nat2 dh dl = x.depth ∧ nat2 hh hl = x.high ∧ nat2 wh wl = x.low ∧ nat2 lh ll = x.period ∧
        rl.toNat = x.limit) ∧
      x.inRange := by
  simp only [parseSet, Option.bind_eq_bind, Option.bind_eq_some_iff, Option.pure_def,
    Option.ite_none_right_eq_some, Option.some.injEq, Prod.mk.injEq]
  constructor
  · rintro ⟨_, hq, _, hps, _, he, ok, rfl, rfl⟩
    exact ⟨⟨hq, hps, he⟩, ⟨rfl, rfl, rfl, rfl, rfl⟩, ok⟩
  · obtain ⟨producers, depth, high, low, period, limit, producerEnd⟩ := x
    rintro ⟨⟨hq, hps, he⟩, ⟨rfl, rfl, rfl, rfl, rfl⟩, ok⟩
    exact ⟨k, hq, producers, hps, producerEnd, he, ok, rfl, rfl⟩

/-- Only a payload of 15 bytes fits the layout of a DefineQueue (10 R164). -/
theorem parseDefine_layout {payload : List Byte} {x : QueueId × Definition} (h : parseDefine payload = some x) :
    ∃ q c ps dh dl hh hl wh wl lh ll rl dm pe dq,
      payload = [q, c, ps, dh, dl, hh, hl, wh, wl, lh, ll, rl, dm, pe, dq] := by
  unfold parseDefine at h
  split at h
  · exact ⟨_, _, _, _, _, _, _, _, _, _, _, _, _, _, _, rfl⟩
  · cases h

/-- Only a payload of 12 bytes fits the layout of a SetQueue (10 R164). -/
theorem parseSet_layout {payload : List Byte} {x : QueueId × Settable} (h : parseSet payload = some x) :
    ∃ q ps dh dl hh hl wh wl lh ll rl pe, payload = [q, ps, dh, dl, hh, hl, wh, wl, lh, ll, rl, pe] := by
  unfold parseSet at h
  split at h
  · exact ⟨_, _, _, _, _, _, _, _, _, _, _, _, rfl⟩
  · cases h

theorem parseDefine_eq_none_of_length {payload : List Byte} (h : payload.length ≠ 15) : parseDefine payload = none :=
  Option.eq_none_iff_forall_ne_some.2 fun x hx => by
    obtain ⟨_, _, _, _, _, _, _, _, _, _, _, _, _, _, _, rfl⟩ := parseDefine_layout hx
    exact h rfl

theorem parseSet_eq_none_of_length {payload : List Byte} (h : payload.length ≠ 12) : parseSet payload = none :=
  Option.eq_none_iff_forall_ne_some.2 fun x hx => by
    obtain ⟨_, _, _, _, _, _, _, _, _, _, _, _, rfl⟩ := parseSet_layout hx
    exact h rfl

/-- What a DefineQueue that was read brings to the queue table (02 R25). -/
theorem parseDefine_sound {payload : List Byte} {q : QueueId} {d : Definition}
    (h : parseDefine payload = some (q, d)) :
    d.settable.inRange ∧ d.settable.producers ≠ 0 ∧ d.deadLetter ≠ some q := by
  obtain ⟨_, _, _, _, _, _, _, _, _, _, _, _, _, _, _, rfl⟩ := parseDefine_layout h
  obtain ⟨⟨_, _, hps, _⟩, _, ranges, other⟩ := parseDefine_eq_some_iff.1 h
  exact ⟨ranges, producersField_ne_zero hps, other⟩

/-- What a SetQueue that was read brings to its queue (02 R43). -/
theorem parseSet_sound {payload : List Byte} {q : QueueId} {x : Settable} (h : parseSet payload = some (q, x)) :
    x.inRange ∧ x.producers ≠ 0 := by
  obtain ⟨_, _, _, _, _, _, _, _, _, _, _, _, rfl⟩ := parseSet_layout h
  obtain ⟨⟨_, hps, _⟩, _, ranges⟩ := parseSet_eq_some_iff.1 h
  exact ⟨ranges, producersField_ne_zero hps⟩

/-- The payload of a DefineQueue, as a master builds it (10 section 10.7.2). -/
theorem parseDefine_bytes {q c ps limit dm pe dq : Byte} {depth h w period : Nat} (hdepth : depth < 65536)
    (hh : h < 65536) (hw : w < 65536) (hperiod : period < 65536) {k : QueueId} {d : Definition} :
    parseDefine ([q, c, ps] ++ byte2 depth ++ byte2 h ++ byte2 w ++ byte2 period ++ [limit, dm, pe, dq]) =
        some (k, d) ↔
      (k.val = q.toNat ∧ d.consumer.val = c.toNat ∧
        (1 ≤ ps.toNat ∧ ps.toNat ≤ 15 ∧ d.settable.producers = ps.extractLsb' 0 4) ∧
        (dm.toNat ≤ 1 ∧ d.mode = if dm = 0 then .confirmed else .streamed) ∧
        (pe.toNat ≤ 1 ∧ d.settable.producerEnd = if pe = 0 then .keep else .purge) ∧
        ((dq = 0xFF ∧ d.deadLetter = none) ∨ ∃ n : QueueId, d.deadLetter = some n ∧ n.val = dq.toNat)) ∧
      (depth = d.settable.depth ∧ h = d.settable.high ∧ w = d.settable.low ∧ period = d.settable.period ∧
        limit.toNat = d.settable.limit) ∧
      d.settable.inRange ∧ d.deadLetter ≠ some k := by
  show parseDefine [_, _, _, _, _, _, _, _, _, _, _, _, _, _, _] = _ ↔ _
  rw [parseDefine_eq_some_iff, nat2_byte2 hdepth, nat2_byte2 hh, nat2_byte2 hw, nat2_byte2 hperiod,
    queueField_eq_some_iff, portField_eq_some_iff, producersField_eq_some_iff, modeField_eq_some_iff,
    producerEndField_eq_some_iff, deadLetterField_eq_some_iff]

/-- The payload of a SetQueue, as a master builds it (10 section 10.7.2). -/
theorem parseSet_bytes {q ps limit pe : Byte} {depth h w period : Nat} (hdepth : depth < 65536)
    (hh : h < 65536) (hw : w < 65536) (hperiod : period < 65536) {k : QueueId} {x : Settable} :
    parseSet ([q, ps] ++ byte2 depth ++ byte2 h ++ byte2 w ++ byte2 period ++ [limit, pe]) = some (k, x) ↔
      (k.val = q.toNat ∧ (1 ≤ ps.toNat ∧ ps.toNat ≤ 15 ∧ x.producers = ps.extractLsb' 0 4) ∧
        (pe.toNat ≤ 1 ∧ x.producerEnd = if pe = 0 then .keep else .purge)) ∧
      (depth = x.depth ∧ h = x.high ∧ w = x.low ∧ period = x.period ∧ limit.toNat = x.limit) ∧
      x.inRange := by
  show parseSet [_, _, _, _, _, _, _, _, _, _, _, _] = _ ↔ _
  rw [parseSet_eq_some_iff, nat2_byte2 hdepth, nat2_byte2 hh, nat2_byte2 hw, nat2_byte2 hperiod,
    queueField_eq_some_iff, producersField_eq_some_iff, producerEndField_eq_some_iff]

end Sys2Proof.Machine
end

section
/-! SUPPORT. Which queue records each operation of the queue engine leaves and writes. -/

namespace Sys2Proof.Machine

/-- An evaluation of the high flag writes the flag of its queue and no other record (06 R103). -/
@[simp] theorem evalFlag_queues (q : QueueId) (s : State) :
    (evalFlag q s).queues = upd s.queues q { s.queue q with flag := (s.queue q).judgeFlag.1 } := by
  simp only [evalFlag]
  split <;> simp

@[simp] theorem postArrival_queues (q : QueueId) (r : Queue) (s : State) : (postArrival q r s).queues = s.queues := by
  simp only [postArrival]
  split <;> rfl

@[simp] theorem releaseAll_queues (l : List Message) (s : State) : (releaseAll l s).queues = s.queues :=
  foldl_step (R := fun s t => t.queues = s.queues) (fun _ => rfl) (fun h k => k.trans h)
    (fun s _ => sendPool_queues s _ _) l s

/-- A completed drain makes its queue Unused with a clear flag, and writes no other record (02 R38). -/
theorem completeDrain_queues (q : QueueId) (s : State) :
    (completeDrain q s).queues = s.queues ∨
      (completeDrain q s).queues = upd s.queues q { s.queue q with state := .unused, flag := false } := by
  simp only [completeDrain]
  split
  · exact .inr (by simp)
  · exact .inl rfl

/-- No queue in use names `q` as its dead-letter queue (02 R26). -/
theorem unreferenced_iff {q : QueueId} {s : State} :
    unreferenced q s = true ↔ ∀ k, (s.queue k).state ≠ .unused → (s.queue k).deadLetter ≠ some q := by
  simp [unreferenced, mem_allQueues, Queue.live, imp_iff_not_or]

theorem defineCheck_of_live {q : QueueId} {s : State} (h : (s.queue q).state ≠ .unused) (d : Definition) :
    defineCheck q d s = some .inUse :=
  if_pos h

theorem defineCheck_of_no_deadLetter {q : QueueId} {d : Definition} {s : State} (h : (s.queue q).state = .unused)
    (hd : d.deadLetter = none) : defineCheck q d s = none := by
  simp [defineCheck, h, hd]

/-- The checks on the dead-letter queue that a DefineQueue names (02 R26 checks 2 to 4). -/
theorem defineCheck_of_deadLetter {q k : QueueId} {d : Definition} {s : State} (h : (s.queue q).state = .unused)
    (hd : d.deadLetter = some k) :
    defineCheck q d s =
      if (s.queue k).state ≠ .opened then some .queueNotOpen
      else if (s.queue k).deadLetter ≠ none then some .inUse
      else if ¬unreferenced q s then some .inUse
      else none := by
  simp only [defineCheck, h, hd, ne_eq, not_true, if_false]

/-- A dead-letter queue that passed the checks names none, and no queue in use names the new queue (02 R26). -/
theorem of_defineCheck_eq_none {q k : QueueId} {d : Definition} {s : State} (h : defineCheck q d s = none)
    (hd : d.deadLetter = some k) : (s.queue k).deadLetter = none ∧ unreferenced q s = true := by
  have unused : (s.queue q).state = .unused := of_not_not fun live => by
    simp [defineCheck_of_live live] at h
  rw [defineCheck_of_deadLetter unused hd] at h
  split at h
  · cases h
  · split at h
    · cases h
    · split at h
      · cases h
      next none hu => exact ⟨of_not_not none, of_not_not hu⟩

/-- Every list entry is cleared, whatever else the clearing goes through (02 R45). -/
theorem queue_foldl_clearQueue (l : List QueueId) (s : State) (q : QueueId) :
    (l.foldl clearQueue s).queue q = if q ∈ l then (s.queue q).cleared else s.queue q := by
  have twice : ∀ r : Queue, r.cleared.cleared = r.cleared := fun r => by cases h : r.state <;> simp [Queue.cleared, h]
  induction l generalizing s with
  | nil => rfl
  | cons k l ih =>
    rw [List.foldl_cons, ih, clearQueue]
    by_cases hk : k = q
    · subst hk
      simp [twice]
    · simp [State.queue_setQueue_ne _ _ hk, Ne.symm hk]

end Sys2Proof.Machine
end

section
/-! SUPPORT. The invariant of the queues: what keeps it, the queue engine's operations one by one, then every command
and every step. -/

namespace Sys2Proof.Machine

/-! ### What keeps the invariant -/

/-- The queues of `t` are sound if those of `s` are. -/
structure QueuesKept (s t : State) : Prop where
  sound : QueuesSound s → QueuesSound t

theorem QueuesKept.refl (s : State) : QueuesKept s s := ⟨id⟩

theorem QueuesKept.trans {s t u : State} (h : QueuesKept s t) (k : QueuesKept t u) : QueuesKept s u :=
  ⟨k.sound ∘ h.sound⟩

/-- A record that stays sound, keeps its dead-letter queue, and does not leave Unused. -/
structure RecordKept (r r' : Queue) : Prop where
  sound      : QueueSound r → QueueSound r'
  deadLetter : r'.deadLetter = r.deadLetter
  live       : r'.state ≠ .unused → r.state ≠ .unused

theorem RecordKept.refl (r : Queue) : RecordKept r r := ⟨id, rfl, id⟩

/-- Records kept one by one keep the queues sound. -/
theorem QueuesKept.of_records {s t : State} (h : ∀ q, RecordKept (s.queue q) (t.queue q)) : QueuesKept s t :=
  ⟨fun hs => ⟨fun q => (h q).sound (hs.records q), fun q d hq hd => by
    rw [(h d).deadLetter]
    exact hs.deadLetter q d ((h q).live hq) ((h q).deadLetter ▸ hd)⟩⟩

theorem QueuesKept.of_queues_eq {s t : State} (h : t.queues = s.queues) : QueuesKept s t :=
  .of_records fun q => by rw [State.queue, State.queue, h]; exact .refl _

/-- What a block sends or takes from its messages leaves the queues as they are kept. -/
theorem QueuesKept.sent {s t u : State} (h : QueuesKept s t) (e : u.queues = t.queues) : QueuesKept s u :=
  h.trans (.of_queues_eq e)

theorem QueuesKept.of_upd {s t : State} {q : QueueId} {r : Queue} (h : t.queues = upd s.queues q r)
    (hr : RecordKept (s.queue q) r) : QueuesKept s t :=
  .of_records fun k => by
    rw [State.queue, State.queue, h, sel_upd]
    split
    next hk => exact hk ▸ hr
    next => exact .refl _

theorem QueuesKept.setQueue {s : State} {q : QueueId} {r : Queue} (h : RecordKept (s.queue q) r) :
    QueuesKept s (s.setQueue q r) :=
  .of_upd rfl h

/-- Counts, sequence and a list in class order are free to change. -/
theorem RecordKept.of_list {r r' : Queue} (hl : ClassOrder r.list → ClassOrder r'.list)
    (same : r' = { r with list := r'.list, leased := r'.leased, pending := r'.pending, nextSeq := r'.nextSeq }) :
    RecordKept r r' := by
  rw [same]
  exact ⟨fun h => ⟨h.depth, h.low, h.period, h.limit, h.producers, h.dropped, hl h.order⟩, rfl, id⟩

/-- Without a high watermark the flag is evaluated to clear (06 R103). -/
theorem judgeFlag_of_high_zero {r : Queue} (h : r.high = 0) : r.judgeFlag.1 = false := by
  simp only [Queue.judgeFlag, if_pos h]

/-- Settable fields in their ranges, with the flag evaluated (02 R43, R44, 06 R105). -/
theorem QueueSound.withSettable {r : Queue} (h : QueueSound r) {x : Settable} (ranges : x.inRange)
    (hp : x.producers ≠ 0) :
    QueueSound { r.withSettable x with flag := (r.withSettable x).judgeFlag.1 } := by
  obtain ⟨depth, ⟨low_zero, low_high⟩, period, limit⟩ := Settable.inRange_iff.1 ranges
  refine ⟨depth, ?_, period, limit, fun _ => hp, h.dropped, h.order⟩
  split
  next h0 => exact ⟨low_zero h0, judgeFlag_of_high_zero h0⟩
  next h0 => exact low_high h0

theorem RecordKept.evalFlag (r : Queue) : RecordKept r { r with flag := r.judgeFlag.1 } where
  sound h := by
    refine ⟨h.depth, ?_, h.period, h.limit, h.producers, h.dropped, h.order⟩
    have low := h.low
    split
    next h0 => exact ⟨((if_pos h0).mp low).1, judgeFlag_of_high_zero h0⟩
    next h0 => exact (if_neg h0).mp low
  deadLetter := rfl
  live := id

theorem RecordKept.drained (r : Queue) : RecordKept r { r with state := .unused, flag := false } where
  sound h := by
    refine ⟨h.depth, ?_, h.period, h.limit, fun live => absurd rfl live, h.dropped, h.order⟩
    have low := h.low
    split
    next h0 => exact ⟨((if_pos h0).mp low).1, rfl⟩
    next h0 => exact (if_neg h0).mp low
  deadLetter := rfl
  live h := absurd rfl h

/-- A queue that is not Unused may become Draining (02 R37). -/
theorem RecordKept.draining {r : Queue} (live : r.state ≠ .unused) : RecordKept r { r with state := .draining } where
  sound h := ⟨h.depth, h.low, h.period, h.limit, fun _ => h.producers live, h.dropped, h.order⟩
  deadLetter := rfl
  live _ := live

theorem RecordKept.cleared (r : Queue) : RecordKept r r.cleared where
  sound h := by
    refine ⟨h.depth, ?_, h.period, h.limit, fun live => h.producers ?_, h.dropped, .nil⟩
    · have low := h.low
      split
      next h0 => exact ⟨((if_pos h0).mp low).1, rfl⟩
      next h0 => exact (if_neg h0).mp low
    · intro unused
      simp [Queue.cleared, unused] at live
  deadLetter := rfl
  live h unused := by simp [Queue.cleared, unused] at h

/-- The dropped count rises up to 65535 (02 R35). -/
theorem RecordKept.dropped (r : Queue) (leased : Nat) : RecordKept r { r with
    leased, dropped := if r.dropped < 65535 then r.dropped + 1 else 65535 } where
  sound h := by
    refine ⟨h.depth, h.low, h.period, h.limit, h.producers, ?_, h.order⟩
    dsimp only
    split <;> omega
  deadLetter := rfl
  live := id

/-- A queue comes into use with a sound record, a dead-letter queue that names none itself, and as the dead-letter queue
of no queue in use unless it names none (02 R26). -/
theorem QueuesSound.setQueue {s : State} (h : QueuesSound s) {q : QueueId} {r : Queue} (hr : QueueSound r)
    (names : ∀ d, r.deadLetter = some d → d ≠ q ∧ (s.queue d).deadLetter = none)
    (named : ∀ k, (s.queue k).state ≠ .unused → (s.queue k).deadLetter = some q → r.deadLetter = none) :
    QueuesSound (s.setQueue q r) := by
  refine ⟨fun k => ?_, fun k d hk hd => ?_⟩
  · by_cases hq : q = k
    · subst hq
      rwa [State.queue_setQueue_same]
    · rw [State.queue_setQueue_ne _ _ hq]
      exact h.records k
  · by_cases hq : q = k
    · subst hq
      rw [State.queue_setQueue_same] at hd
      obtain ⟨other, none⟩ := names d hd
      exact ⟨other, by rwa [State.queue_setQueue_ne _ _ other.symm]⟩
    · rw [State.queue_setQueue_ne _ _ hq] at hk hd
      obtain ⟨other, none⟩ := h.deadLetter k d hk hd
      by_cases hqd : q = d
      · subst hqd
        exact ⟨other, by rw [State.queue_setQueue_same]; exact named k hk hd⟩
      · exact ⟨other, by rwa [State.queue_setQueue_ne _ _ hqd]⟩

/-! ### The queue engine's operations -/

theorem evalFlag_kept (q : QueueId) (s : State) : QueuesKept s (evalFlag q s) :=
  .of_upd (evalFlag_queues q s) (.evalFlag _)

theorem completeDrain_kept (q : QueueId) (s : State) : QueuesKept s (completeDrain q s) :=
  (completeDrain_queues q s).elim .of_queues_eq fun h => .of_upd h (.drained _)

theorem settleQueue_kept (q : QueueId) (s : State) : QueuesKept s (settleQueue q s) :=
  (evalFlag_kept q s).trans (completeDrain_kept q _)

theorem postArrival_kept (q : QueueId) (r : Queue) (s : State) : QueuesKept s (postArrival q r s) :=
  .of_queues_eq (postArrival_queues q r s)

theorem judgeChecks_kept (p : Port) (q : QueueId) (n : Nat) (s : State) : QueuesKept s (judgeChecks p q n s) := by
  simp only [judgeChecks]
  split
  · exact .of_queues_eq rfl
  · refine QueuesKept.sent (.trans ?_ (evalFlag_kept q _)) (sendPool_queues ..)
    exact .setQueue (.of_list id rfl)

theorem takeCommit_kept (q : QueueId) (m : Message) (s : State) : QueuesKept s (takeCommit q m s) := by
  refine QueuesKept.sent (.trans ?_ (postArrival_kept q (s.queue q) _)) (sendPool_queues ..)
  exact .setQueue (.of_list (·.joinTail _) rfl)

theorem takePendingDecrement_kept (q : QueueId) (s : State) : QueuesKept s (takePendingDecrement q s) := by
  refine QueuesKept.trans ?_ (settleQueue_kept q _)
  exact .setQueue (.of_list id rfl)

theorem lowerLeased_kept (q : QueueId) (s : State) :
    QueuesKept s (s.setQueue q { s.queue q with leased := (s.queue q).leased - 1 }) :=
  .setQueue (.of_list id rfl)

theorem takeLeasedDecrement_kept (q : QueueId) (s : State) : QueuesKept s (takeLeasedDecrement q s) :=
  (lowerLeased_kept q s).trans (settleQueue_kept q _)

theorem takeReinsertion_kept (q : QueueId) (m : Message) (s : State) : QueuesKept s (takeReinsertion q m s) := by
  refine QueuesKept.trans ?_ (postArrival_kept q (s.queue q) _)
  exact .setQueue (.of_list (·.joinHead _) rfl)

theorem judgeHead_kept (p : Port) (q : QueueId) (s : State) : QueuesKept s (judgeHead p q s) := by
  simp only [judgeHead]
  split
  next => exact .of_queues_eq rfl
  next =>
    split
    next => exact .of_queues_eq rfl
    next =>
      split
      next => exact .of_queues_eq rfl
      next m rest hl =>
        have tail : ClassOrder (s.queue q).list → ClassOrder rest := fun h => (List.pairwise_cons.1 (hl ▸ h)).2
        exact QueuesKept.sent (.setQueue (.of_list tail rfl)) rfl

theorem takeDeadLetter_kept (q : QueueId) (m : Message) (cause : DeadCause) (s : State) :
    QueuesKept s (takeDeadLetter q m cause s) := by
  simp only [takeDeadLetter]
  split
  next d _ =>
    refine QueuesKept.sent (.trans (.trans (.trans (.trans (.trans (lowerLeased_kept q s) ?_) (postArrival_kept ..))
      (evalFlag_kept q _)) (evalFlag_kept d _)) (completeDrain_kept q _)) (sendLease_queues ..)
    exact .setQueue (.of_list (·.joinTail _) rfl)
  next =>
    refine QueuesKept.sent (.trans ?_ (settleQueue_kept q _)) (sendLease_queues ..)
    exact .setQueue (.dropped ..)

theorem judgeDefine_kept (p : Port) (payload : List Byte) (s : State) : QueuesKept s (judgeDefine p payload s) := by
  simp only [judgeDefine]
  split
  next => exact .of_queues_eq rfl
  next q d parsed =>
    obtain ⟨ranges, producers, other⟩ := parseDefine_sound parsed
    obtain ⟨depth, ⟨low_zero, low_high⟩, period, limit⟩ := Settable.inRange_iff.1 ranges
    split
    next => exact .of_queues_eq rfl
    next check =>
      refine QueuesKept.sent (t := s.setQueue q _) ⟨fun hs => hs.setQueue ?_ ?_ ?_⟩ rfl
      · refine ⟨depth, ?_, period, limit, fun _ => producers, (hs.records q).dropped, .nil⟩
        split
        next h0 => exact ⟨low_zero h0, rfl⟩
        next h0 => exact low_high h0
      · exact fun k hk => ⟨fun e => other (e ▸ hk), (of_defineCheck_eq_none check hk).1⟩
      · exact fun j live names => Option.eq_none_iff_forall_ne_some.2 fun k hk =>
          unreferenced_iff.1 (of_defineCheck_eq_none check hk).2 j live names

theorem judgeSet_kept (p : Port) (payload : List Byte) (s : State) : QueuesKept s (judgeSet p payload s) := by
  simp only [judgeSet]
  split
  next => exact .of_queues_eq rfl
  next q x parsed =>
    obtain ⟨ranges, producers⟩ := parseSet_sound parsed
    split
    next => exact .of_queues_eq rfl
    next =>
      split
      next => exact .of_queues_eq rfl
      next =>
        have settled : RecordKept (s.queue q) _ := ⟨fun h => h.withSettable ranges producers, rfl, id⟩
        exact .of_upd (q := q) (by simp [noticeSettings]) settled

theorem judgeClose_kept (p : Port) (payload : List Byte) (s : State) : QueuesKept s (judgeClose p payload s) := by
  simp only [judgeClose]
  split
  next => exact .of_queues_eq rfl
  next q _ =>
    split
    next => exact .of_queues_eq rfl
    next => exact .of_queues_eq rfl
    next opened =>
      refine QueuesKept.sent (.trans ?_ (completeDrain_kept q _)) (reply_queues ..)
      exact .setQueue (.draining (by simp [opened]))

theorem purgeList_kept (q : QueueId) (gone : Message → Bool) (producer : Option Port) (s : State) :
    QueuesKept s (purgeList q gone producer s) := by
  have removed : RecordKept (s.queue q) { s.queue q with list := (s.queue q).list.filter fun m => !gone m } :=
    .of_list (fun h => h.filter _) rfl
  simp only [purgeList]
  refine QueuesKept.trans (.of_upd (q := q) ?_ removed) (settleQueue_kept q _)
  split <;> simp

theorem judgePurge_kept (p : Port) (payload : List Byte) (s : State) : QueuesKept s (judgePurge p payload s) := by
  simp only [judgePurge]
  split
  next => exact .of_queues_eq rfl
  next =>
    split
    next => exact .of_queues_eq rfl
    next => exact (purgeList_kept ..).sent (reply_queues ..)

theorem judgeStatus_kept (p : Port) (payload : List Byte) (s : State) : QueuesKept s (judgeStatus p payload s) := by
  simp only [judgeStatus]
  split <;> exact .of_queues_eq rfl

theorem judgeQueue_kept (x : QueueMsg) (s : State) : QueuesKept s (judgeQueue x s) := by
  simp only [judgeQueue]
  split
  · exact judgeChecks_kept ..
  · exact judgeHead_kept ..
  · exact judgeDefine_kept ..
  · exact judgeSet_kept ..
  · exact judgeClose_kept ..
  · exact judgePurge_kept ..
  · exact judgeStatus_kept ..
  · exact .refl s

theorem restQueue_kept (src : Source) (l : List QueueMsg) (s : State) : QueuesKept s (restQueue src l s) :=
  .of_queues_eq rfl

theorem holdOrJudge_kept (x : QueueMsg) (s : State) : QueuesKept s (holdOrJudge x s) := by
  simp only [holdOrJudge]
  split
  · exact .of_queues_eq rfl
  · exact judgeQueue_kept x s

theorem takeQueueRequest_kept (src : Source) (r : Req) (s : State) : QueuesKept s (takeQueueRequest src r s) := by
  simp only [takeQueueRequest]
  repeat' split
  · exact (restQueue_kept ..).trans (holdOrJudge_kept ..)
  · exact .refl s
  · exact .refl s

theorem purgeProducer_kept (p : Port) (s : State) (q : QueueId) : QueuesKept s (purgeProducer p s q) := by
  simp only [purgeProducer]
  split
  · exact purgeList_kept ..
  · exact .refl s

theorem attachArrival_kept (p : Port) (s : State) (q : QueueId) : QueuesKept s (attachArrival p s q) := by
  simp only [attachArrival]
  split <;> exact .of_queues_eq rfl

theorem clearQueue_kept (s : State) (q : QueueId) : QueuesKept s (clearQueue s q) := .setQueue (.cleared _)

theorem reportCleared_kept (s : State) : QueuesKept s (reportCleared s) := by
  simp only [reportCleared]
  split <;> exact .of_queues_eq rfl

/-! ### The commands -/

/-- The commands that can change the queues: those the queue engine carries out, and device reset; RESET_RELEASE stands
here because `scopeOf` leaves it to its meaning. -/
inductive ReachesQueues : Instr → Prop
  | defineQueue : ReachesQueues (.defineQueue .applied)
  | setQueue : ReachesQueues (.setQueue .applied)
  | closeQueue : ReachesQueues (.closeQueue .applied)
  | purgeQueue : ReachesQueues (.purgeQueue .applied)
  | queueStatus (p : Port) : ReachesQueues (.queueStatus (.taken p))
  | sessionEnd (p : Port) : ReachesQueues (.queueSessionEnd p)
  | attach (p : Port) : ReachesQueues (.queueAttach p)
  | checks : ReachesQueues .queueChecks
  | commit : ReachesQueues .commit
  | pendingDecrement : ReachesQueues .pendingDecrement
  | headRemoval : ReachesQueues .headRemoval
  | reinsertion : ReachesQueues .reinsertion
  | leasedDecrement : ReachesQueues .leasedDecrement
  | deadLetter : ReachesQueues .deadLetterRequest
  | clearingOrder : ReachesQueues .queueClearingOrder
  | cancellation : ReachesQueues .cancellationNotice
  | completion : ReachesQueues .queueResetCompletion
  | deviceReset : ReachesQueues .deviceReset
  | resetRelease : ReachesQueues .resetRelease

/-- Every other command leaves the queues as they are. -/
theorem queues_eq_or_reachesQueues {c : Instr} {s t : State} (h : scopeOf c s t) :
    t.queues = s.queues ∨ ReachesQueues c := by
  unfold scopeOf at h
  split at h
  all_goals first
    | exact .inl h.1
    | exact .inl h.2.1
    | exact .inr (by constructor)

theorem queueSessionEnd_kept {p : Port} {s t : State} (h : exec (.queueSessionEnd p) s = .next t) :
    QueuesKept s t := by
  cases h
  repeat' split
  · refine QueuesKept.sent (.trans ?_ (foldl_step .refl .trans (purgeProducer_kept p) allQueues _))
      (reportCleanup_queues ..)
    exact restQueue_kept ..
  · exact .refl s
  · exact .refl s

theorem queueAttach_kept {p : Port} {s t : State} (h : exec (.queueAttach p) s = .next t) : QueuesKept s t := by
  cases h
  repeat' split
  · refine QueuesKept.sent (.trans ?_ (foldl_step .refl .trans (attachArrival_kept p) allQueues _))
      (reportAttach_queues ..)
    exact restQueue_kept ..
  · exact .refl s
  · exact .refl s

theorem queueChecks_kept {s t : State} (h : exec .queueChecks s = .next t) : QueuesKept s t := by
  cases h
  split
  · exact (restQueue_kept ..).trans (holdOrJudge_kept ..)
  · exact .refl s

theorem commit_kept {s t : State} (h : exec .commit s = .next t) : QueuesKept s t := by
  cases h
  split
  · exact (restQueue_kept ..).trans (takeCommit_kept ..)
  · exact .refl s

theorem pendingDecrement_kept {s t : State} (h : exec .pendingDecrement s = .next t) : QueuesKept s t := by
  cases h
  split
  · exact (restQueue_kept ..).trans (takePendingDecrement_kept ..)
  · exact .refl s

theorem headRemoval_kept {s t : State} (h : exec .headRemoval s = .next t) : QueuesKept s t := by
  cases h
  split
  · exact (restQueue_kept ..).trans (holdOrJudge_kept ..)
  · exact .refl s

theorem reinsertion_kept {s t : State} (h : exec .reinsertion s = .next t) : QueuesKept s t := by
  cases h
  repeat' split
  · exact restQueue_kept ..
  · exact (restQueue_kept ..).trans (takeReinsertion_kept ..)
  · exact .refl s

theorem leasedDecrement_kept {s t : State} (h : exec .leasedDecrement s = .next t) : QueuesKept s t := by
  cases h
  repeat' split
  · exact restQueue_kept ..
  · exact (restQueue_kept ..).trans (takeLeasedDecrement_kept ..)
  · exact .refl s

theorem deadLetterRequest_kept {s t : State} (h : exec .deadLetterRequest s = .next t) : QueuesKept s t := by
  cases h
  repeat' split
  · exact .of_queues_eq rfl
  · exact (restQueue_kept ..).trans (takeDeadLetter_kept ..)
  · exact .refl s

theorem queueClearingOrder_kept {s t : State} (h : exec .queueClearingOrder s = .next t) : QueuesKept s t := by
  cases h
  split
  · refine QueuesKept.trans (.sent (.trans ?_ (foldl_step .refl .trans clearQueue_kept allQueues _))
      (State.setEngine_queues ..)) (reportCleared_kept _)
    exact restQueue_kept ..
  · exact .refl s

theorem cancellationNotice_kept {s t : State} (h : exec .cancellationNotice s = .next t) : QueuesKept s t := by
  cases h
  split
  · refine QueuesKept.trans ?_ (reportCleared_kept _)
    exact .of_queues_eq rfl
  · exact .refl s

theorem queueResetCompletion_kept {s t : State} (h : exec .queueResetCompletion s = .next t) : QueuesKept s t := by
  cases h
  split
  · refine QueuesKept.trans ?_ (foldl_step .refl .trans (fun s x => judgeQueue_kept x s) s.engine.held _)
    exact .of_queues_eq rfl
  · exact .refl s

theorem exec_keeps_queues {c : Instr} {s t : State} (h : exec c s = .next t) : QueuesKept s t := by
  obtain ⟨u, hu, scope⟩ := exec_scope c s
  obtain rfl : u = t := by simpa [hu] using h
  rcases queues_eq_or_reachesQueues scope with same | reaches
  · exact .of_queues_eq same
  · cases reaches with
    | defineQueue | setQueue | closeQueue | purgeQueue | queueStatus => cases h; exact takeQueueRequest_kept ..
    | sessionEnd => exact queueSessionEnd_kept h
    | attach => exact queueAttach_kept h
    | checks => exact queueChecks_kept h
    | commit => exact commit_kept h
    | pendingDecrement => exact pendingDecrement_kept h
    | headRemoval => exact headRemoval_kept h
    | reinsertion => exact reinsertion_kept h
    | leasedDecrement => exact leasedDecrement_kept h
    | deadLetter => exact deadLetterRequest_kept h
    | clearingOrder => exact queueClearingOrder_kept h
    | cancellation => exact cancellationNotice_kept h
    | completion => exact queueResetCompletion_kept h
    | deviceReset => 
      cases h
      have same : QueuesKept State.reset (afterReset true s) := .of_queues_eq rfl
      exact ⟨fun _ => same.sound reset_queuesSound⟩
    | resetRelease => cases h; exact .of_queues_eq rfl

theorem step_keeps_queues {s t : State} (h : step s = .next t) : QueuesKept s t := by
  unfold step at h
  split at h
  next => cases h; exact .refl s
  next c rest _ =>
    have front : QueuesKept s { s with pending := rest } := .of_queues_eq rfl
    exact front.trans (exec_keeps_queues h)

end Sys2Proof.Machine
end

section
/-! SUPPORT. What the queue engine does with the message it takes: one equation for each kind (02 R31 to R46). -/

namespace Sys2Proof.Machine

/-! ### The message at the front -/

theorem exec_queueChecks {s : State} {p : Port} {q : QueueId} {n : Nat} {rest : List QueueMsg}
    (h : s.links.toQueue.sent .pool = .checks p q n :: rest) :
    exec .queueChecks s = .next (holdOrJudge (.checks p q n) (restQueue .pool rest s)) := by
  simp only [exec, execQueueChecks, h]

theorem exec_headRemoval {s : State} {p : Port} {q : QueueId} {rest : List QueueMsg}
    (h : s.links.toQueue.sent .lease = .headRemoval p q :: rest) :
    exec .headRemoval s = .next (holdOrJudge (.headRemoval p q) (restQueue .lease rest s)) := by
  simp only [exec, execHeadRemoval, h]

theorem takeQueueRequest_eq {s : State} {src : Source} {p : Port} {r : Req} {payload : List Byte}
    {rest : List QueueMsg} (h : s.links.toQueue.sent src = .request p r payload :: rest) :
    takeQueueRequest src r s = holdOrJudge (.request p r payload) (restQueue src rest s) := by
  simp only [takeQueueRequest, h, if_true]

/-- A configuration request that the configuration unit has passed on (09 R152). -/
theorem exec_queueRequest {s : State} {p : Port} {r : Req} {c : Instr} {payload : List Byte} {rest : List QueueMsg}
    (hc : (r, c) ∈ [(Req.defineQueue, Instr.defineQueue .applied), (.setQueue, .setQueue .applied),
      (.closeQueue, .closeQueue .applied), (.purgeQueue, .purgeQueue .applied)])
    (h : s.links.toQueue.sent .config = .request p r payload :: rest) :
    exec c s = .next (holdOrJudge (.request p r payload) (restQueue .config rest s)) := by
  have taken : exec c s = .next (takeQueueRequest .config r s) := by
    simp only [List.mem_cons, Prod.mk.injEq, List.not_mem_nil, or_false] at hc
    rcases hc with ⟨rfl, rfl⟩ | ⟨rfl, rfl⟩ | ⟨rfl, rfl⟩ | ⟨rfl, rfl⟩ <;> rfl
  rw [taken, takeQueueRequest_eq h]

theorem exec_queueStatus_taken {s : State} {p : Port} {payload : List Byte} {rest : List QueueMsg}
    (h : s.links.toQueue.sent (.port p) = .request p .queueStatus payload :: rest) :
    exec (.queueStatus (.taken p)) s =
      .next (holdOrJudge (.request p .queueStatus payload) (restQueue (.port p) rest s)) := by
  rw [← takeQueueRequest_eq h]
  rfl

theorem holdOrJudge_of_hold {s : State} (h : s.engine.hold = true) (x : QueueMsg) :
    holdOrJudge x s = s.setEngine { s.engine with held := s.engine.held ++ [x] } :=
  if_pos h

theorem holdOrJudge_of_not_hold {s : State} (h : s.engine.hold = false) (x : QueueMsg) :
    holdOrJudge x s = judgeQueue x s :=
  if_neg (by simp [h])

/-! ### Draining, checks, head removal -/

theorem occupancy_eq_zero_iff (r : Queue) : r.occupancy = 0 ↔ r.list = [] ∧ r.leased = 0 ∧ r.pending = 0 := by
  simp [Queue.occupancy, Queue.queued, and_assoc]

/-- The consumer first, then the other producers (02 R38; assumption 19). -/
theorem closedPorts_eq (r : Queue) : r.closedPorts =
    r.consumer :: [0, 1, 2, 3].filter fun k : Port => k ≠ r.consumer ∧ r.producers.getLsbD k.val = true := by
  rw [Queue.closedPorts, Queue.producerPorts, List.filter_filter]
  refine congrArg _ (List.filter_congr fun k _ => ?_)
  rw [Bool.eq_iff_iff]
  simp

theorem completeDrain_eq (q : QueueId) (s : State) : completeDrain q s =
    let r := s.queue q
    if r.state = .draining ∧ r.list = [] ∧ r.leased = 0 ∧ r.pending = 0 then
      postAll .queue (r.consumer :: ([0, 1, 2, 3].filter fun k : Port =>
          k ≠ r.consumer ∧ r.producers.getLsbD k.val = true)) (.queueClosed q)
        (s.setQueue q { r with state := .unused, flag := false })
    else s := by
  simp only [completeDrain, occupancy_eq_zero_iff, closedPorts_eq]

/-- The checks of a PutOpen or Put in their order (02 R31). -/
theorem judgeChecks_eq (p : Port) (q : QueueId) (n : Nat) (s : State) : judgeChecks p q n s =
    let r := s.queue q
    if r.state ≠ .opened then sendPool .queue (.checkRefusal p .queueNotOpen) s
    else if r.producers.getLsbD p.val = false then sendPool .queue (.checkRefusal p .notProducer) s
    else if r.depth ≤ r.list.length + r.leased + r.pending then sendPool .queue (.checkRefusal p .queueFull) s
    else sendPool .queue (.alloc p { cells := n, queue := q })
      (evalFlag q (s.setQueue q { r with pending := r.pending + 1 })) := by
  by_cases hs : (s.queue q).state ≠ .opened
  · simp only [judgeChecks, Queue.putCheck, if_pos hs]
  by_cases hp : (s.queue q).producers.getLsbD p.val = false
  · simp only [judgeChecks, Queue.putCheck, Bool.not_eq_true, if_neg hs, if_pos hp]
  by_cases hd : (s.queue q).depth ≤ (s.queue q).occupancy
  · simp only [judgeChecks, Queue.putCheck, Bool.not_eq_true, if_neg hs, if_neg hp, if_pos hd]
    exact (if_pos hd).symm
  · simp only [judgeChecks, Queue.putCheck, Bool.not_eq_true, if_neg hs, if_neg hp, if_neg hd]
    exact (if_neg hd).symm

/-! ### The dead-letter step (02 R35) -/

/-- The dead-letter queue is named, Open and has room. -/
theorem deadTarget_of_room {q d : QueueId} {s : State} (named : (s.queue q).deadLetter = some d)
    (opened : (s.queue d).state = .opened) (room : (s.queue d).occupancy < (s.queue d).depth) :
    deadTarget q s = some d := by
  simp only [deadTarget, named, opened, room, and_self, if_true]

theorem deadTarget_eq_none {q : QueueId} {s : State} (h : ∀ d, (s.queue q).deadLetter = some d →
    (s.queue d).state ≠ .opened ∨ (s.queue d).depth ≤ (s.queue d).occupancy) : deadTarget q s = none := by
  simp only [deadTarget]
  split
  next d named => exact if_neg fun ⟨opened, room⟩ => (h d named).elim (· opened) fun full => by omega
  next => rfl

theorem takeDeadLetter_moved {q d : QueueId} {s : State} (m : Message) (cause : DeadCause)
    (target : deadTarget q s = some d) (other : d ≠ q) :
    takeDeadLetter q m cause s =
      let r := s.queue d
      let m' := { m with sequence := r.nextSeq, deliveries := 0, origin := some (q, cause) }
      sendLease .queue (.deadAnswer (.moved q)) <| completeDrain q <| evalFlag d <| evalFlag q <| postArrival d r <|
        (s.setQueue q { s.queue q with leased := (s.queue q).leased - 1 }).setQueue d
          { r with list := joinTail m' r.list, nextSeq := r.nextSeq + 1 } := by
  simp only [takeDeadLetter, target, State.queue_setQueue_ne _ _ other.symm]

theorem takeDeadLetter_dropped {q : QueueId} {s : State} (m : Message) (cause : DeadCause)
    (target : deadTarget q s = none) :
    takeDeadLetter q m cause s =
      (sendLease .queue (.deadAnswer (.dropped q cause m)) <| completeDrain q <| evalFlag q <|
        s.setQueue q { s.queue q with
          leased := (s.queue q).leased - 1
          dropped := if (s.queue q).dropped < 65535 then (s.queue q).dropped + 1 else 65535 }) := by
  simp only [takeDeadLetter, target, settleQueue]

/-! ### Configuration requests -/

theorem judgeDefine_of_none {p : Port} {payload : List Byte} {s : State} (h : parseDefine payload = none) :
    judgeDefine p payload s = reply p .range [] s := by
  simp only [judgeDefine, h]

theorem judgeDefine_of_refused {p : Port} {payload : List Byte} {q : QueueId} {d : Definition} {s : State} {st : Status}
    (h : parseDefine payload = some (q, d)) (check : defineCheck q d s = some st) :
    judgeDefine p payload s = reply p st [] s := by
  simp only [judgeDefine, h, check]

/-- The queue that a DefineQueue opens (02 R27). -/
theorem judgeDefine_of_passed {p : Port} {payload : List Byte} {q : QueueId} {d : Definition} {s : State}
    (h : parseDefine payload = some (q, d)) (check : defineCheck q d s = none) :
    judgeDefine p payload s =
      (reply p .ok [] <| sendLease .queue (.settings q d.settable.limit d.settable.period) <| s.setQueue q
        { (s.queue q).withSettable d.settable with
          state := .opened, consumer := d.consumer, mode := d.mode, deadLetter := d.deadLetter
          list := [], leased := 0, pending := 0, flag := false }) := by
  simp only [judgeDefine, h, check, noticeSettings, State.queue_setQueue_same, Queue.withSettable]

/-- An evaluation of the flag leaves everything of its queue but the flag. -/
theorem queue_evalFlag_same (q : QueueId) (s : State) :
    (evalFlag q s).queue q = { s.queue q with flag := (s.queue q).judgeFlag.1 } := by
  rw [State.queue, evalFlag_queues, sel_upd_same]

/-- SetQueue against its queue, and the fields it replaces (02 R44). -/
theorem judgeSet_of_some {p : Port} {payload : List Byte} {q : QueueId} {x : Settable} {s : State}
    (h : parseSet payload = some (q, x)) :
    judgeSet p payload s =
      let r := s.queue q
      if r.state = .unused then reply p .queueNotOpen [] s
      else if x.depth < r.list.length + r.leased + r.pending then reply p .inUse [] s
      else reply p .ok [] <| sendLease .queue (.settings q x.limit x.period) <| evalFlag q <| s.setQueue q
        { r with producers := x.producers, depth := x.depth, high := x.high, low := x.low, period := x.period
                 limit := x.limit, producerEnd := x.producerEnd } := by
  simp only [judgeSet, h, noticeSettings, queue_evalFlag_same, State.queue_setQueue_same, Queue.withSettable]
  rfl

/-- The state a CloseQueue answers: Unused where the drain completes at once (02 R37). -/
theorem state_completeDrain_draining (q : QueueId) (s : State) {r : Queue} (h : r.state = .draining) :
    ((completeDrain q (s.setQueue q r)).queue q).state = if r.occupancy = 0 then .unused else .draining := by
  simp only [completeDrain, State.queue_setQueue_same, h, true_and]
  split
  · rw [queue_postAll, State.queue_setQueue_same]
  · rw [State.queue_setQueue_same, h]

theorem judgeClose_of_opened {p : Port} {payload : List Byte} {q : QueueId} {s : State}
    (h : parseQueue payload = some q) (opened : (s.queue q).state = .opened) :
    judgeClose p payload s =
      reply p .ok [if (s.queue q).list.length + (s.queue q).leased + (s.queue q).pending = 0 then 0 else 2]
        (completeDrain q (s.setQueue q { s.queue q with state := .draining })) := by
  simp only [judgeClose, h, opened]
  rw [state_completeDrain_draining q s rfl, apply_ite QueueState.code]
  rfl

/-- What a purge of a queue does, its parts written out (02 R40, R42). -/
theorem purgeList_eq (q : QueueId) (gone : Message → Bool) (producer : Option Port) (s : State) :
    purgeList q gone producer s =
      let r := s.queue q
      let released := (r.list.filter gone).foldl (fun u m => sendPool .queue (.release m.producer m.chain) u)
        (s.setQueue q { r with list := r.list.filter fun m => !gone m })
      completeDrain q (evalFlag q
        (if 0 < r.leased then sendLease .queue (.purgeMark q producer) released else released)) := rfl

/-! ### The clearing (02 R45) -/

theorem foldl_clearQueue_eq (l : List QueueId) (s : State) :
    ∃ v, l.foldl clearQueue s = { s with queues := v } := by
  induction l generalizing s with
  | nil => exact ⟨_, rfl⟩
  | cons q l ih => exact ih (clearQueue s q)

/-- The clearing clears every queue and reaches nothing else. -/
theorem clearQueue_allQueues (s : State) :
    ∃ v, allQueues.foldl clearQueue s = { s with queues := v } ∧ ∀ q, sel v q = (s.queue q).cleared := by
  obtain ⟨v, hv⟩ := foldl_clearQueue_eq allQueues s
  refine ⟨v, hv, fun q => ?_⟩
  have cleared := queue_foldl_clearQueue allQueues s q
  rwa [hv, if_pos (mem_allQueues q)] at cleared

theorem reportCleared_of_both {s : State} (order : s.engine.gotOrder = true) (notice : s.engine.gotNotice = true) :
    reportCleared s = sendPool .queue .cleared (s.setEngine { s.engine with gotOrder := false, gotNotice := false }) :=
  if_pos (by simp [order, notice])

theorem reportCleared_of_one {s : State} (h : s.engine.gotOrder = false ∨ s.engine.gotNotice = false) :
    reportCleared s = s :=
  if_neg (by simpa [← Bool.not_eq_true, imp_iff_not_or] using h)

end Sys2Proof.Machine
end

section
/-! The statements about the queue engine. -/

namespace Sys2Proof.Machine

/-- Settles O56: each operation of the queue engine keeps the queues sound, and no other command reaches them. -/
theorem stepKeepsTheQueues : Obligations.StepKeepsTheQueues := fun _ _ sound h => (step_keeps_queues h).sound sound

/-- Settles O23: the decrements by their meanings; the drain condition and the ports of QueueClosed written out. -/
theorem decrementsSettleTheQueue : Obligations.DecrementsSettleTheQueue := by
  refine ⟨fun s q rest h => ?_, fun s q rest h => ?_, fun s q => completeDrain_eq q s⟩
  · simp only [exec, execPendingDecrement, h]
    rfl
  · simp only [exec, execLeasedDecrement, h]
    rfl

/-- Settles O24: the reset hold, then the checks in their order. -/
theorem queueChecksJudged : Obligations.QueueChecksJudged := by
  intro s p q n rest h
  rw [exec_queueChecks h]
  exact congrArg _ (ite_congr rfl (fun _ => rfl) fun _ => judgeChecks_eq p q n _)

/-- Settles O25: a message joins its class, which stands as the class order says. -/
theorem commitAndReinsertionJoinTheirClass : Obligations.CommitAndReinsertionJoinTheirClass := by
  refine ⟨fun s q m rest h order => ?_, fun s q m rest h order => ?_⟩
  · simp only [exec, execCommit, h, takeCommit, queue_restQueue, joinTail_eq _ order]
    rfl
  · simp only [exec, execReinsertion, h, takeReinsertion, queue_restQueue, joinHead_eq _ order]
    rfl

/-- Settles O26: the reset hold, then the checks in their order. -/
theorem headRemovalJudged : Obligations.HeadRemovalJudged := by
  intro s p q rest h
  rw [exec_headRemoval h]
  rfl

/-- Settles O27: the reset hold; a dead-letter queue with room, which is another queue; and none. -/
theorem deadLetterStep : Obligations.DeadLetterStep := by
  refine ⟨fun s q m cause rest h hold => ?_, fun s q d m cause rest h hold named other opened room order => ?_,
    fun s q m cause rest h hold none => ?_⟩
  · simp only [exec, execDeadLetterRequest, h, hold, if_true]
  · have target : deadTarget q (restQueue .lease rest s) = some d := deadTarget_of_room named opened room
    simp only [exec, execDeadLetterRequest, h, hold, Bool.false_eq_true, if_false]
    rw [takeDeadLetter_moved m cause target other]
    simp only [queue_restQueue, joinTail_eq _ order]
    rfl
  · have target : deadTarget q (restQueue .lease rest s) = Option.none := deadTarget_eq_none none
    simp only [exec, execDeadLetterRequest, h, hold, Bool.false_eq_true, if_false]
    rw [takeDeadLetter_dropped m cause target]
    rfl

/-- Settles O28: what the parser reads, field by field, and that it reads nothing where a field is out of range. -/
theorem defineQueueArguments : Obligations.DefineQueueArguments := by
  refine ⟨fun s p q c ps limit dm pe dq depth h w period rest hdepth hh hw hperiod hold front =>
    ⟨fun bad => ?_, fun good => ?_⟩, fun s p payload rest front => ?_⟩
  · rw [exec_queueRequest (by simp) front, holdOrJudge_of_not_hold (s := restQueue .config rest s) hold]
    refine congrArg _ (judgeDefine_of_none (Option.eq_none_iff_forall_ne_some.2 fun ⟨k, d⟩ read => ?_))
    obtain ⟨⟨hq, hc, ⟨hps, hps', _⟩, ⟨hdm, _⟩, ⟨hpe, _⟩, hdq⟩, ⟨rfl, rfl, rfl, rfl, hl⟩, ranges, other⟩ :=
      (parseDefine_bytes hdepth hh hw hperiod).1 read
    obtain ⟨depths, low, period, limits⟩ := Settable.inRange_iff.1 ranges
    have defined : ¬(31 < dq.toNat ∧ dq ≠ 0xFF) := fun ⟨large, ne⟩ =>
      hdq.elim (fun ⟨absent, _⟩ => ne absent) fun ⟨n, _, hn⟩ => by omega
    have another : dq ≠ q := fun e => hdq.elim
      (fun ⟨absent, _⟩ => by
        have : q.toNat = 255 := e ▸ absent ▸ rfl
        omega)
      fun ⟨n, hd, hn⟩ => other (hd.trans (congrArg some (Fin.ext (by rw [hn, hq, e]))))
    simp only [defined, another, or_false] at bad
    omega
  · simp only [not_or, not_lt, not_and, not_le, ne_eq, not_not] at good
    obtain ⟨hq, hc, hps, hps', hd, hd', hhd, hlow, hlow', hp, hl, hl', hdm, hpe, hdq, another⟩ := good
    refine ⟨⟨q.toNat, by omega⟩, ⟨⟨c.toNat, by omega⟩, _, _, queueField dq⟩,
      (parseDefine_bytes hdepth hh hw hperiod).2 ⟨⟨rfl, rfl, ⟨by omega, hps', rfl⟩, ⟨hdm, rfl⟩, ⟨hpe, rfl⟩, ?_⟩,
        ⟨rfl, rfl, rfl, rfl, rfl⟩, ?_, ?_⟩, rfl, rfl, rfl, rfl, ?_, fun n => queueField_eq_some_iff.2⟩
    · by_cases small : dq.toNat < 32
      · exact .inr ⟨⟨dq.toNat, small⟩, dif_pos small, rfl⟩
      · exact .inl ⟨hdq (by omega), dif_neg small⟩
    · rw [Settable.inRange_iff]
      dsimp only
      omega
    · exact fun same => another (BitVec.eq_of_toNat_eq (queueField_eq_some_iff.1 same).symm)
    · rintro rfl
      rfl
  · rw [exec_queueRequest (by simp) front]
    refine ⟨fun hold => congrArg _ (holdOrJudge_of_hold (s := restQueue .config rest s) hold _), fun hold length => ?_⟩
    have unread := parseDefine_eq_none_of_length length
    rw [holdOrJudge_of_not_hold (s := restQueue .config rest s) hold]
    exact ⟨unread, congrArg _ (judgeDefine_of_none unread)⟩

/-- Settles O29: the checks against the queue table in their order. -/
theorem defineQueueJudged : Obligations.DefineQueueJudged := by
  intro s p payload rest q d front read
  rw [exec_queueRequest (by simp) front]
  have judged (hold : s.engine.hold = false) :
      holdOrJudge (.request p .defineQueue payload) (restQueue .config rest s) =
        judgeDefine p payload (restQueue .config rest s) :=
    holdOrJudge_of_not_hold (s := restQueue .config rest s) hold _
  refine ⟨fun hold => congrArg _ (holdOrJudge_of_hold (s := restQueue .config rest s) hold _), fun hold live => ?_,
    fun hold unused hn => ?_, fun hold unused hn hc => ?_, fun hold unused hn hc => ?_⟩ <;> rw [judged hold]
  · have check : defineCheck q d (restQueue .config rest s) = some .inUse := defineCheck_of_live live d
    rw [judgeDefine_of_refused read check]
  · obtain ⟨k, hk, closed⟩ := hn
    have check : defineCheck q d (restQueue .config rest s) = some .queueNotOpen :=
      (defineCheck_of_deadLetter unused hk).trans (if_pos closed)
    rw [judgeDefine_of_refused read check]
  · obtain ⟨k, hk, chain⟩ := hc
    have opened : (s.queue k).state = .opened := of_not_not fun closed => hn ⟨k, hk, closed⟩
    have check : defineCheck q d (restQueue .config rest s) = some .inUse := by
      refine (defineCheck_of_deadLetter unused hk).trans ((if_neg (not_not_intro opened)).trans ?_)
      rcases chain with names | ⟨j, live, names⟩
      · exact if_pos names
      · have referenced : ¬unreferenced q (restQueue .config rest s) := fun free =>
          unreferenced_iff.1 free j live names
        exact ite_eq_left_iff.2 fun _ => if_pos referenced
    rw [judgeDefine_of_refused read check]
  · have check : defineCheck q d (restQueue .config rest s) = none := by
      cases hk : d.deadLetter with
      | none => exact defineCheck_of_no_deadLetter unused hk
      | some k =>
        have opened : (s.queue k).state = .opened := of_not_not fun closed => hn ⟨k, hk, closed⟩
        have names_none : (s.queue k).deadLetter = none := of_not_not fun names => hc ⟨k, hk, .inl names⟩
        have free : unreferenced q (restQueue .config rest s) = true :=
          unreferenced_iff.2 fun j live names => hc ⟨k, hk, .inr ⟨j, live, names⟩⟩
        exact (defineCheck_of_deadLetter unused hk).trans ((if_neg (not_not_intro opened)).trans
          ((if_neg (not_not_intro names_none)).trans (if_neg (not_not_intro free))))
    rw [judgeDefine_of_passed read check]
    rfl

/-- Settles O30: the checks in their order; the payload as a master builds it. -/
theorem setQueueJudged : Obligations.SetQueueJudged := by
  refine ⟨fun s p payload rest front => ?_, fun q ps limit pe depth h w period hdepth hh hw hperiod =>
    ⟨fun bad => ?_, fun good => ?_⟩, fun payload => parseSet_eq_none_of_length⟩
  · rw [exec_queueRequest (by simp) front]
    refine congrArg _ (ite_congr rfl (fun _ => rfl) fun _ => ?_)
    show judgeSet p payload _ = _
    cases read : parseSet payload with
    | none => simp only [judgeSet, read]
    | some x => exact judgeSet_of_some read
  · refine Option.eq_none_iff_forall_ne_some.2 fun ⟨k, x⟩ read => ?_
    obtain ⟨⟨hq, ⟨hps, hps', _⟩, hpe, _⟩, ⟨rfl, rfl, rfl, rfl, hl⟩, ranges⟩ :=
      (parseSet_bytes hdepth hh hw hperiod).1 read
    obtain ⟨depths, low, period, limits⟩ := Settable.inRange_iff.1 ranges
    omega
  · simp only [not_or, not_lt, not_and, not_le, ne_eq, not_not] at good
    obtain ⟨hq, hps, hps', hd, hd', hhd, hlow, hlow', hp, hl, hl', hpe⟩ := good
    refine ⟨⟨q.toNat, by omega⟩, _, (parseSet_bytes hdepth hh hw hperiod).2
      ⟨⟨rfl, ⟨by omega, hps', rfl⟩, hpe, rfl⟩, ⟨rfl, rfl, rfl, rfl, rfl⟩, ?_⟩, rfl, rfl⟩
    rw [Settable.inRange_iff]
    dsimp only
    omega

/-- Settles O31: the answers of a CloseQueue by the state of its queue, and a PurgeQueue by its parts. -/
theorem closeAndPurgeJudged : Obligations.CloseAndPurgeJudged := by
  refine ⟨fun s p payload rest front => ?_, fun s p payload rest front => ?_, fun _ _ => parseQueue_eq_some_iff⟩
  · rw [exec_queueRequest (by simp) front]
    refine congrArg _ (ite_congr rfl (fun _ => rfl) fun _ => ?_)
    show judgeClose p payload _ = _
    cases read : parseQueue payload with
    | none => simp only [judgeClose, read]
    | some q =>
      cases state : (s.queue q).state with
      | unused => simp only [judgeClose, read, queue_restQueue, state]
      | draining =>
        simp only [judgeClose, read, queue_restQueue, state]
        rfl
      | opened =>
        refine (judgeClose_of_opened (s := restQueue .config rest s) read state).trans ?_
        simp only [state]
        rfl
  · rw [exec_queueRequest (by simp) front]
    refine congrArg _ (ite_congr rfl (fun _ => rfl) fun _ => ?_)
    show judgePurge p payload _ = _
    cases read : parseQueue payload with
    | none => simp only [judgePurge, read]
    | some q =>
      simp only [judgePurge, read, purgeList_eq, List.filter_true, Bool.not_true, List.filter_false]
      rfl

/-- Settles O32: the purge of each queue by its parts. -/
theorem queueSessionEndPurges : Obligations.QueueSessionEndPurges := by
  refine ⟨fun s p rest h => ?_, List.length_finRange, fun i _ => ?_⟩
  · simp only [exec, execQueueSessionEnd, h, if_true]
    refine congrArg (fun f : State → QueueId → State =>
      Host.Outcome.next (reportCleanup p .queue (allQueues.foldl f (restQueue (.port p) rest s)))) ?_
    funext u q
    simp only [purgeProducer, purgeList_eq, Queue.live, bne_iff_ne, ← decide_not]
  · simp only [allQueues, List.getElem_finRange]
    rfl

/-- Settles O33: the clearing of every queue, the two reports in either order, and the completion. -/
theorem queueClearingAndCompletion : Obligations.QueueClearingAndCompletion := by
  refine ⟨fun s rest h => ?_, fun s rest h => ?_, fun s rest h => ?_,
    fun u p q n r payload hold => ⟨fun l h => ?_, fun l h => ?_, fun l c h hc => ?_, fun l h => ?_⟩⟩
  · obtain ⟨v, hv, cleared⟩ := clearQueue_allQueues (restQueue .pool rest s)
    simp only [exec, execQueueClearingOrder, h, hv]
    by_cases notice : s.engine.gotNotice = true
    · exact ⟨_, congrArg _ (reportCleared_of_both rfl notice), cleared, (if_pos notice).symm⟩
    · exact ⟨_, congrArg _ (reportCleared_of_one (.inr (by simpa using notice))), cleared, (if_neg notice).symm⟩
  · simp only [exec, execCancellationNotice, h]
    refine congrArg _ ?_
    by_cases order : s.engine.gotOrder = true
    · refine (reportCleared_of_both ?_ ?_).trans (if_pos order).symm
      · exact order
      · rfl
    · exact (reportCleared_of_one (.inl (by simpa using order))).trans (if_neg order).symm
  · simp only [exec, execQueueResetCompletion, h]
  · rw [exec_queueChecks h]
    exact congrArg _ (holdOrJudge_of_not_hold (s := restQueue .pool l u) hold _)
  · rw [exec_headRemoval h]
    exact congrArg _ (holdOrJudge_of_not_hold (s := restQueue .lease l u) hold _)
  · rw [exec_queueRequest hc h]
    exact congrArg _ (holdOrJudge_of_not_hold (s := restQueue .config l u) hold _)
  · rw [exec_queueStatus_taken h]
    exact congrArg _ (holdOrJudge_of_not_hold (s := restQueue (.port p) l u) hold _)

end Sys2Proof.Machine
end

section
/-! SUPPORT. The payloads of PutOpen, Put and PutData: the fields, and what each request reads from them (03 R50, R53,
R58). -/

namespace Sys2Proof.Machine

/-! ### The option fields -/

theorem classField_eq_some_iff {b : Byte} {m : MsgClass} :
    classField b = some m ↔ b.toNat ≤ 1 ∧ m = if b = 0 then .normal else .urgent :=
  zeroOneField_eq_some_iff

theorem and_undefinedOptions_eq_zero_iff (b : Byte) : b &&& 0xFC = 0 ↔ b.toNat ≤ 3 := by
  revert b; decide

/-- A four-byte field reads back as it was written (10 R171). -/
theorem word4_byte4 (w : Word) :
    word4 (w.extractLsb' 24 8) (w.extractLsb' 16 8) (w.extractLsb' 8 8) (w.extractLsb' 0 8) = w := by
  simp only [word4, BitVec.extractLsb'_append_extractLsb'_eq_extractLsb', BitVec.extractLsb'_eq_self]

/-- The option bytes that the option byte `o` declares, with the word `w` and the reply queue `rq` (10 section
10.7.2). -/
def optionBytes (o rq : Byte) (w : Word) : List Byte :=
  (if o.getLsbD 0 then byte4 w else []) ++ if o.getLsbD 1 then [rq] else []

theorem corrField_bytes (o : Byte) (w : Word) (rest : List Byte) :
    corrField o ((if o.getLsbD 0 then byte4 w else []) ++ rest) =
      some (if o.getLsbD 0 then some w else none, rest) := by
  by_cases h : o.getLsbD 0 = true
  · simp only [corrField, h, if_true, byte4, List.cons_append, List.nil_append, word4_byte4]
  · simp only [corrField, h, Bool.false_eq_true, if_false, List.nil_append]

/-- The reply queue is read where bit 1 declares it, and must then name a queue (10 R171). -/
theorem replyField_bytes_eq_some_iff {o rq : Byte} {rest rest' : List Byte} {re : Option QueueId} :
    replyField o ((if o.getLsbD 1 then [rq] else []) ++ rest) = some (re, rest') ↔
      re.map (·.val) = (if o.getLsbD 1 then some rq.toNat else none) ∧ rest' = rest := by
  unfold replyField
  split_ifs with declared
  · simp only [List.cons_append, List.nil_append, Option.map_eq_some_iff, queueField_eq_some_iff, Prod.mk.injEq]
    constructor
    · rintro ⟨q, hq, rfl, rfl⟩
      exact ⟨⟨q, rfl, hq⟩, rfl⟩
    · rintro ⟨⟨q, rfl, hq⟩, rfl⟩
      exact ⟨q, hq, rfl, rfl⟩
  · simp only [List.nil_append, Option.some.injEq, Prod.mk.injEq, Option.map_eq_none_iff, eq_comm (b := rest),
      eq_comm (a := re)]

theorem optionFields_eq_some_iff {o : Byte} {rest rest' : List Byte} {corr : Option Word} {re : Option QueueId} :
    optionFields o rest = some (corr, re, rest') ↔
      o.toNat ≤ 3 ∧ ∃ r, corrField o rest = some (corr, r) ∧ replyField o r = some (re, rest') := by
  simp only [optionFields, ne_eq, ite_not, Option.ite_none_right_eq_some, and_undefinedOptions_eq_zero_iff,
    Option.bind_eq_bind, Option.bind_eq_some_iff, Option.pure_def, Option.some.injEq, Prod.exists, Prod.mk.injEq]
  constructor
  · rintro ⟨ho, _, r, hc, _, _, hr, rfl, rfl, rfl⟩
    exact ⟨ho, r, hc, hr⟩
  · rintro ⟨ho, r, hc, hr⟩
    exact ⟨ho, corr, r, hc, re, rest', hr, rfl, rfl, rfl⟩

/-- The option fields, read from the bytes that a master builds. -/
theorem optionFields_bytes_eq_some_iff {o rq : Byte} {w : Word} {rest rest' : List Byte} {corr : Option Word}
    {re : Option QueueId} :
    optionFields o (optionBytes o rq w ++ rest) = some (corr, re, rest') ↔
      o.toNat ≤ 3 ∧ corr = (if o.getLsbD 0 then some w else none) ∧
        re.map (·.val) = (if o.getLsbD 1 then some rq.toNat else none) ∧ rest' = rest := by
  rw [optionFields_eq_some_iff, optionBytes, List.append_assoc, corrField_bytes]
  simp only [Option.some.injEq, Prod.mk.injEq, and_assoc, exists_and_left, exists_eq_left',
    replyField_bytes_eq_some_iff, eq_comm (b := corr)]

theorem corrField_length {o : Byte} {rest r : List Byte} {corr : Option Word}
    (h : corrField o rest = some (corr, r)) : rest.length = (if corr = none then 0 else 4) + r.length := by
  unfold corrField at h
  split at h
  · split at h
    · cases h
      simp only [List.length_cons, reduceCtorEq, if_false]
      omega
    · cases h
  · cases h
    simp

theorem replyField_length {o : Byte} {rest r : List Byte} {re : Option QueueId}
    (h : replyField o rest = some (re, r)) : rest.length = (if re = none then 0 else 1) + r.length := by
  unfold replyField at h
  split at h
  · split at h
    next a tail =>
      obtain ⟨q, -, hq⟩ := Option.map_eq_some_iff.1 h
      cases hq
      simp [add_comm]
    next => cases h
  · cases h
    simp

/-- The option fields take as many bytes as they are present (10 section 10.7.2). -/
theorem optionFields_length {o : Byte} {rest r : List Byte} {corr : Option Word} {re : Option QueueId}
    (h : optionFields o rest = some (corr, re, r)) :
    rest.length = ((if corr = none then 0 else 4) + if re = none then 0 else 1) + r.length := by
  obtain ⟨-, mid, hc, hr⟩ := optionFields_eq_some_iff.1 h
  rw [corrField_length hc, replyField_length hr, add_assoc]

/-! ### PutOpen and Put, field by field -/

theorem parsePutOpen_eq_some_iff {q c hi lo o : Byte} {rest : List Byte} {a : PutArgs} :
    parsePutOpen (q :: c :: hi :: lo :: o :: rest) = some a ↔
      (queueField q = some a.queue ∧ classField c = some a.cls ∧
        optionFields o rest = some (a.corr, a.reply, [])) ∧
      nat2 hi lo = a.length ∧ 1 ≤ a.length ∧ a.length ≤ 4096 ∧ a.data = none := by
  simp only [parsePutOpen, Option.bind_eq_bind, Option.bind_eq_some_iff, Option.pure_def,
    Option.ite_none_right_eq_some, Option.some.injEq, Prod.exists]
  constructor
  · rintro ⟨_, hq, _, hc, _, _, _, ho, ⟨h1, h2, rfl⟩, rfl⟩
    exact ⟨⟨hq, hc, ho⟩, rfl, h1, h2, rfl⟩
  · obtain ⟨queue, length, cls, corr, re, data⟩ := a
    rintro ⟨⟨hq, hc, ho⟩, rfl, h1, h2, rfl⟩
    exact ⟨queue, hq, cls, hc, corr, re, [], ho, ⟨h1, h2, rfl⟩, rfl⟩

theorem parsePut_eq_some_iff {q c o : Byte} {rest : List Byte} {a : PutArgs} :
    parsePut (q :: c :: o :: rest) = some a ↔ ∃ data,
      (queueField q = some a.queue ∧ classField c = some a.cls ∧
        optionFields o rest = some (a.corr, a.reply, data)) ∧
      data.length = a.length ∧ 1 ≤ a.length ∧ a.length ≤ 256 ∧ a.data = some data := by
  simp only [parsePut, Option.bind_eq_bind, Option.bind_eq_some_iff, Option.pure_def,
    Option.ite_none_right_eq_some, Option.some.injEq, Prod.exists]
  constructor
  · rintro ⟨_, hq, _, hc, _, _, data, ho, ⟨h1, h2⟩, rfl⟩
    exact ⟨data, ⟨hq, hc, ho⟩, rfl, h1, h2, rfl⟩
  · obtain ⟨queue, length, cls, corr, re, data⟩ := a
    rintro ⟨bytes, ⟨hq, hc, ho⟩, rfl, h1, h2, rfl⟩
    exact ⟨queue, hq, cls, hc, corr, re, bytes, ho, ⟨h1, h2⟩, rfl⟩

/-- A PutOpen that was read is as long as its fields. -/
theorem parsePutOpen_length {payload : List Byte} {a : PutArgs} (h : parsePutOpen payload = some a) :
    payload.length = 5 + ((if a.corr = none then 0 else 4) + if a.reply = none then 0 else 1) := by
  match payload, h with
  | q :: c :: hi :: lo :: o :: rest, h =>
    obtain ⟨⟨-, -, ho⟩, -⟩ := parsePutOpen_eq_some_iff.1 h
    have options := optionFields_length ho
    simp only [List.length_cons, List.length_nil] at options ⊢
    omega

/-- A Put that was read is as long as its fields and its message. -/
theorem parsePut_length {payload : List Byte} {a : PutArgs} (h : parsePut payload = some a) :
    payload.length = 3 + ((if a.corr = none then 0 else 4) + if a.reply = none then 0 else 1) + a.length := by
  match payload, h with
  | q :: c :: o :: rest, h =>
    obtain ⟨data, ⟨-, -, ho⟩, hl, -⟩ := parsePut_eq_some_iff.1 h
    have options := optionFields_length ho
    simp only [List.length_cons] at options ⊢
    omega

/-! ### PutOpen and Put, as a master builds them -/

/-- A queue, class, option byte or declared reply queue is out of range (10 R171). -/
def PutFieldsBad (q c o rq : Byte) : Prop :=
  31 < q.toNat ∨ 1 < c.toNat ∨ 3 < o.toNat ∨ (o.getLsbD 1 = true ∧ 31 < rq.toNat)

/-- The arguments say what the bytes of queue, class and options say. -/
def PutFieldsAgree (q c o rq : Byte) (w : Word) (a : PutArgs) : Prop :=
  a.queue.val = q.toNat ∧ a.cls = (if c = 0 then .normal else .urgent) ∧
    a.corr = (if o.getLsbD 0 then some w else none) ∧
    a.reply.map (·.val) = if o.getLsbD 1 then some rq.toNat else none

theorem putFields_read_iff {q c o rq : Byte} {w : Word} {rest rest' : List Byte} {a : PutArgs} :
    (queueField q = some a.queue ∧ classField c = some a.cls ∧
        optionFields o (optionBytes o rq w ++ rest) = some (a.corr, a.reply, rest')) ↔
      (¬PutFieldsBad q c o rq ∧ PutFieldsAgree q c o rq w a) ∧ rest' = rest := by
  rw [queueField_eq_some_iff, classField_eq_some_iff, optionFields_bytes_eq_some_iff]
  constructor
  · rintro ⟨hq, ⟨hc, hcls⟩, ho, hcorr, hre, hrest⟩
    refine ⟨⟨?_, hq, hcls, hcorr, hre⟩, hrest⟩
    rintro (bad | bad | bad | ⟨declared, bad⟩)
    · have := a.queue.isLt
      omega
    · omega
    · omega
    · rw [if_pos declared] at hre
      obtain ⟨k, -, hk⟩ := Option.map_eq_some_iff.1 hre
      have := k.isLt
      omega
  · rintro ⟨⟨good, hq, hcls, hcorr, hre⟩, hrest⟩
    simp only [PutFieldsBad, not_or, not_lt] at good
    obtain ⟨-, hc, ho, -⟩ := good
    exact ⟨hq, ⟨hc, hcls⟩, ho, hcorr, hre, hrest⟩

/-- Fields in range are the fields of some arguments, of any length and data. -/
theorem exists_putFieldsAgree {q c o rq : Byte} (w : Word) (good : ¬PutFieldsBad q c o rq) (length : Nat)
    (data : Option (List Byte)) :
    ∃ a, PutFieldsAgree q c o rq w a ∧ a.length = length ∧ a.data = data := by
  simp only [PutFieldsBad, not_or, not_lt, not_and] at good
  obtain ⟨hq, -, -, hre⟩ := good
  have reply : ∃ re : Option QueueId, re.map (·.val) = if o.getLsbD 1 then some rq.toNat else none := by
    by_cases declared : o.getLsbD 1 = true
    · exact ⟨some ⟨rq.toNat, by have := hre declared; omega⟩, (if_pos declared).symm⟩
    · exact ⟨none, (if_neg declared).symm⟩
  obtain ⟨re, hre⟩ := reply
  exact ⟨{ queue := ⟨q.toNat, by omega⟩, length, cls := _, corr := _, reply := re, data },
    ⟨rfl, rfl, rfl, hre⟩, rfl, rfl⟩

theorem parsePutOpen_bytes {q c o rq : Byte} {w : Word} {n : Nat} (hn : n < 65536) {a : PutArgs} :
    parsePutOpen ([q, c] ++ byte2 n ++ [o] ++ optionBytes o rq w) = some a ↔
      (¬PutFieldsBad q c o rq ∧ PutFieldsAgree q c o rq w a) ∧ n = a.length ∧ 1 ≤ a.length ∧ a.length ≤ 4096 ∧
        a.data = none := by
  show parsePutOpen (q :: c :: _ :: _ :: o :: optionBytes o rq w) = some a ↔ _
  rw [parsePutOpen_eq_some_iff, nat2_byte2 hn, ← List.append_nil (optionBytes o rq w), putFields_read_iff,
    and_iff_left rfl]

theorem parsePut_bytes {q c o rq : Byte} {w : Word} {data : List Byte} {a : PutArgs} :
    parsePut ([q, c, o] ++ optionBytes o rq w ++ data) = some a ↔
      (¬PutFieldsBad q c o rq ∧ PutFieldsAgree q c o rq w a) ∧ data.length = a.length ∧ 1 ≤ a.length ∧
        a.length ≤ 256 ∧ a.data = some data := by
  show parsePut (q :: c :: o :: (optionBytes o rq w ++ data)) = some a ↔ _
  simp only [parsePut_eq_some_iff, putFields_read_iff, and_assoc, and_left_comm (b := _ = data),
    exists_eq_left]

/-! ### PutData -/

theorem parsePutData_of_fits (hi lo : Byte) {data : List Byte} (h : data.length ≤ 256) :
    parsePutData (hi :: lo :: data) = some (nat2 hi lo, data) :=
  if_pos h

/-- A payload shorter than its offset field or with more than 256 bytes of data does not fit (assumption 15). -/
theorem parsePutData_of_misfit {payload : List Byte} (h : payload.length < 2 ∨ 258 < payload.length) :
    parsePutData payload = none := by
  match payload with
  | [] | [_] => rfl
  | hi :: lo :: data =>
    simp only [List.length_cons] at h
    exact if_neg (by rw [Config.chunkLimit]; omega)

end Sys2Proof.Machine
end

section
/-! SUPPORT. What the pool manager does with the message it takes: the requests of the ports, and its part of a session
end (03 R50 to R61). -/

namespace Sys2Proof.Machine

/-! ### The requests of the ports -/

/-- The requests the pool manager takes of a port, each with the command that takes it. -/
def putRequests (p : Port) : List (Req × Instr) :=
  [(.put, .put (.taken p)), (.putOpen, .putOpen (.taken p)), (.putData, .putData (.taken p)),
    (.putCommit, .putCommit (.taken p)), (.putAbort, .putAbort (.taken p))]

theorem exec_eq_takePort {p : Port} {r : Req} {c : Instr} (hc : (r, c) ∈ putRequests p) (s : State) :
    exec c s = .next (takePort p r s) := by
  simp only [putRequests, List.mem_cons, Prod.mk.injEq, List.not_mem_nil, or_false] at hc
  rcases hc with ⟨rfl, rfl⟩ | ⟨rfl, rfl⟩ | ⟨rfl, rfl⟩ | ⟨rfl, rfl⟩ | ⟨rfl, rfl⟩ <;> rfl

/-- In Resetting a request of a port is held, in Normal it is judged (01 R16). -/
theorem exec_putRequest {s : State} {p : Port} {r : Req} {c : Instr} {payload : List Byte} {rest : List PoolMsg}
    (hc : (r, c) ∈ putRequests p) (h : s.links.toPool.sent (.port p) = .request p r payload :: rest) :
    exec c s = .next (
      if s.pool.resetting then holdPool (.request p r payload) (restPool (.port p) rest s)
      else judgePort p r payload (restPool (.port p) rest s)) := by
  rw [exec_eq_takePort hc]
  simp only [takePort, h, and_self, if_true]

/-! ### PutData -/

theorem judgePutData_of_empty {p : Port} {s : State} (h : sel s.pool.slot p = .empty) (payload : List Byte) :
    judgePutData p payload s = reply p .noAssembly [] s := by
  simp only [judgePutData, h]

theorem judgePutData_of_misfit {p : Port} {s : State} {a : Assembly} {payload : List Byte}
    (h : sel s.pool.slot p = .filling a) (misfit : parsePutData payload = none) :
    judgePutData p payload s = reply p .range (byte2 a.fill) s := by
  simp only [judgePutData, h, misfit]

/-- A PutData that fits its layout, its checks in their order (03 R53). -/
theorem judgePutData_of_read {p : Port} {s : State} {a : Assembly} {payload data : List Byte} {offset : Nat}
    (h : sel s.pool.slot p = .filling a) (read : parsePutData payload = some (offset, data)) :
    judgePutData p payload s =
      if offset ≠ a.fill then reply p .sequence (byte2 a.fill) s
      else if data = [] ∨ a.length < offset + data.length then reply p .range (byte2 a.fill) s
      else reply p .ok (byte2 (a.fill + data.length)) (s.setPool { s.pool with
        slot := upd s.pool.slot p (.filling { a with fill := a.fill + data.length })
        cells := storeBytes a.chain offset data s.pool.cells }) := by
  simp only [judgePutData, h, read]

/-- Bytes are fetched one after another, each from its place (01 R2). -/
theorem fetchBytes_eq_map (chain : List CellId) (cells : List Host.Cell) (k n : Nat) :
    fetchBytes chain cells k n =
      (List.range n).map fun i => ((byteAddr chain (k + i)).map fun a => readCell a cells).getD 0 := by
  induction n generalizing k with
  | zero => rfl
  | succ n ih =>
    rw [List.range_succ_eq_map, List.map_cons, List.map_map, fetchBytes, ih]
    refine congrArg₂ _ ?_ (List.map_congr_left fun i _ => ?_)
    · show _ = ((byteAddr chain k).map _).getD 0
      cases byteAddr chain k <;> rfl
    · rw [Function.comp_apply, Nat.succ_eq_add_one, Nat.add_right_comm, Nat.add_assoc]

theorem readCell_eq_find (a : Nat) (cells : List Host.Cell) :
    readCell a cells = ((cells.find? fun c => c.1 = a).map (·.2)).getD 0 := by
  induction cells with
  | nil => rfl
  | cons c cells ih =>
    by_cases h : c.1 = a
    · simp [readCell, h]
    · simp [readCell, h, ih]

/-! ### Session end -/

theorem putHeld_iff (x : Pool) (p : Port) : x.putHeld p = true ↔
    ∃ payload, .request p .put payload ∈ x.held ∨ .request p .putOpen payload ∈ x.held := by
  rw [Pool.putHeld, List.any_eq_true]
  constructor
  · rintro ⟨m, hm, hp⟩
    split at hp
    next a payload =>
      obtain rfl := beq_iff_eq.1 hp
      exact ⟨payload, .inl hm⟩
    next a payload =>
      obtain rfl := beq_iff_eq.1 hp
      exact ⟨payload, .inr hm⟩
    next => cases hp
  · rintro ⟨payload, hm | hm⟩ <;> exact ⟨_, hm, beq_self_eq_true p⟩

/-- A PutOpen or Put of the port is under way: its open mark is set, or it is held for its slot check (03 R61,
01 R19). -/
def Pool.PutUnderWay (x : Pool) (p : Port) : Prop :=
  sel x.opening p ≠ none ∨
    ∃ payload, .request p .put payload ∈ x.held ∨ .request p .putOpen payload ∈ x.held

theorem Pool.putUnderWay_iff (x : Pool) (p : Port) :
    ((sel x.opening p).isSome || x.putHeld p) = true ↔ x.PutUnderWay p := by
  rw [Bool.or_eq_true, putHeld_iff, Option.isSome_iff_ne_none]
  rfl

theorem poolCleanup_of_underWay {p : Port} {s : State} (h : s.pool.PutUnderWay p) :
    poolCleanup p s = s.setPool { s.pool with endDeferred := upd s.pool.endDeferred p true } :=
  if_pos ((s.pool.putUnderWay_iff p).2 h)

theorem poolCleanup_of_empty {p : Port} {s : State} (h : ¬s.pool.PutUnderWay p) (slot : sel s.pool.slot p = .empty) :
    poolCleanup p s =
      reportCleanup p .pool (s.setPool { s.pool with endDeferred := upd s.pool.endDeferred p false }) := by
  refine (if_neg ((s.pool.putUnderWay_iff p).not.2 h)).trans ?_
  simp only [slot]

/-- The cleanup of a Filling slot: left to the return-all step in Resetting (01 R19), else the cells and the pending
count are given back and the cleanup is reported (03 R60). -/
theorem poolCleanup_of_filling {p : Port} {s : State} {a : Assembly} (h : ¬s.pool.PutUnderWay p)
    (slot : sel s.pool.slot p = .filling a) :
    poolCleanup p s =
      if s.pool.resetting then s.setPool { s.pool with endDeferred := upd s.pool.endDeferred p true }
      else reportCleanup p .pool <| sendQueue .pool (.pendingDecrement a.queue) <| s.setPool
        { s.pool.release p a.chain with
          slot := upd s.pool.slot p .empty, endDeferred := upd s.pool.endDeferred p false } := by
  refine (if_neg ((s.pool.putUnderWay_iff p).not.2 h)).trans ?_
  simp only [slot]

theorem exec_poolSessionEnd {s : State} {p : Port} {rest : List PoolMsg}
    (h : s.links.toPool.sent (.port p) = .sessionEnd p :: rest) :
    exec (.poolSessionEnd p) s = .next (poolCleanup p (restPool (.port p) rest s)) := by
  simp only [exec, execPoolSessionEnd, h, if_true]

end Sys2Proof.Machine
end

section
/-! The statements about putting messages. -/

namespace Sys2Proof.Machine

/-- Settles O17: each message by its meaning; a release by the block that sent it. -/
theorem poolTakesAnswersAndReleases : Obligations.PoolTakesAnswersAndReleases := by
  refine ⟨fun s p st rest h => ?_, fun s p q n rest h => ?_, fun s b src p chain rest hb h => ?_⟩
  · simp only [exec, execQueueCheckRefusal, h]
  · simp only [exec, execCommitAnswer, h]
    rfl
  · obtain ⟨rfl, rfl⟩ | ⟨rfl, rfl⟩ := hb <;>
      · simp only [exec, execReleaseRequest, blockSource, h]
        rfl

/-- Settles O14: hold or slot check by the slot and the arguments; then the payloads, read field by field. -/
theorem putSlotCheck : Obligations.PutSlotCheck := by
  refine ⟨fun s p r payload rest cmd args hr h => ?_, fun q c o rq w n data hn => ⟨fun bad => ?_, fun good h1 h2 => ?_,
    fun bad => ?_, fun good h1 h2 => ?_⟩, fun payload a => ⟨parsePutOpen_length, parsePut_length⟩⟩
  · have judged : exec cmd s = .next (
        if s.pool.resetting then holdPool (.request p r payload) (restPool (.port p) rest s)
        else slotCheck p args (restPool (.port p) rest s)) := by
      obtain ⟨rfl, rfl, rfl⟩ | ⟨rfl, rfl, rfl⟩ := hr
      · exact exec_putRequest (by simp [putRequests]) h
      · exact exec_putRequest (by simp [putRequests]) h
    rw [judged]
    rfl
  · refine Option.eq_none_iff_forall_ne_some.2 fun a read => ?_
    obtain ⟨⟨good, -⟩, rfl, h1, h2, -⟩ := (parsePutOpen_bytes hn).1 read
    exact bad.elim good fun range => by omega
  · obtain ⟨a, agrees, rfl, hd⟩ := exists_putFieldsAgree w good n none
    exact ⟨a, (parsePutOpen_bytes hn).2 ⟨⟨good, agrees⟩, rfl, h1, h2, hd⟩, agrees, rfl, hd⟩
  · refine Option.eq_none_iff_forall_ne_some.2 fun a read => ?_
    obtain ⟨⟨good, -⟩, hl, h1, h2, -⟩ := parsePut_bytes.1 read
    rw [← List.length_eq_zero_iff] at bad
    exact bad.elim good fun range => by omega
  · obtain ⟨a, agrees, hl, hd⟩ := exists_putFieldsAgree w good data.length (some data)
    exact ⟨a, parsePut_bytes.2 ⟨⟨good, agrees⟩, hl.symm, hl ▸ h1, hl ▸ h2, hd⟩, agrees, hl, hd⟩

/-- Settles O15: the checks in their order; what storing leaves to read, from the rules of the cell store. -/
theorem putDataJudged : Obligations.PutDataJudged := by
  refine ⟨fun s p hi lo data a rest h hr slot hfill nonempty hlen fits hchain hn hw => ?_,
    fun s p payload rest h => ?_, fun chain k c => ⟨fun hc => ?_, fun past => ?_⟩, fetchBytes_eq_map, readCell_eq_find⟩
  · have read : parsePutData (hi :: lo :: data) = some (a.fill, data) := hfill ▸ parsePutData_of_fits hi lo hlen
    have judged := judgePutData_of_read (s := restPool (.port p) rest s) slot read
    rw [if_neg (not_not_intro rfl), if_neg (not_or.2 ⟨nonempty, by omega⟩)] at judged
    refine ⟨_, exec_putRequest_taken hr (by simp) h, ?_⟩
    simp only [judgePort, judged]
    exact ⟨rfl, fetchBytes_storeBytes hn data hw (by omega), fun x hx => readCell_storeBytes_of_ne data hw hx⟩
  · have judged (hr : s.pool.resetting = false) {t : State}
        (ht : judgePutData p payload (restPool (.port p) rest s) = t) : exec (.putData (.taken p)) s = .next t :=
      ht ▸ exec_putRequest_taken hr (by simp) h
    have read {hi lo : Byte} {data : List Byte} (hp : payload = hi :: lo :: data) (hlen : data.length ≤ 256) :
        parsePutData payload = some (nat2 hi lo, data) := hp ▸ parsePutData_of_fits hi lo hlen
    refine ⟨fun hr => ?_, fun hr slot => judged hr ?_, fun a hr slot misfit => judged hr ?_,
      fun a hi lo data hr slot hp hlen other => judged hr ?_,
      fun a hi lo data hr slot hp hlen same bad => judged hr ?_⟩
    · rw [exec_putRequest (by simp [putRequests]) h, if_pos hr]
      rfl
    · exact judgePutData_of_empty (s := restPool (.port p) rest s) slot payload
    · exact judgePutData_of_misfit (s := restPool (.port p) rest s) slot (parsePutData_of_misfit misfit)
    · exact (judgePutData_of_read (s := restPool (.port p) rest s) slot (read hp hlen)).trans (if_pos other)
    · exact (judgePutData_of_read (s := restPool (.port p) rest s) slot (read hp hlen)).trans
        ((if_neg (not_not_intro same)).trans (if_pos (by rwa [nat2, same])))
  · exact byteAddr_eq_some_iff.2 ⟨c, hc, rfl⟩
  · exact Option.map_eq_none_iff.2 (List.getElem?_eq_none past)

/-- Settles O16: hold or judgement, which is the meaning of each request. -/
theorem putCommitAndAbort : Obligations.PutCommitAndAbort := by
  refine ⟨fun s p payload rest h => ?_, fun s p payload rest h => ?_⟩
  · rw [exec_putRequest (by simp [putRequests]) h]
    rfl
  · rw [exec_putRequest (by simp [putRequests]) h]
    rfl

/-- Settles O19: the cleanup where a request is under way, and where none is, by the slot. -/
theorem poolSessionEndCleanup : Obligations.PoolSessionEndCleanup := by
  intro s p rest h
  rw [exec_poolSessionEnd h]
  exact ⟨fun under => congrArg _ (poolCleanup_of_underWay (s := restPool (.port p) rest s) under),
    fun free slot => congrArg _ (poolCleanup_of_empty (s := restPool (.port p) rest s) free slot),
    fun a free slot => congrArg _ (poolCleanup_of_filling (s := restPool (.port p) rest s) free slot),
    rfl, fun _ => rfl⟩

end Sys2Proof.Machine
end

section
/-! SUPPORT. The leases of a port: their ids (04 R68, R69), what keeps the lists sound, the lease manager's operations
one by one, then every command and every step. -/

namespace Sys2Proof.Machine

/-! ### Lease ids -/

theorem ids_putLease (ls : List Lease) (l : Lease) : (putLease ls l).map (·.id) = ls.map (·.id) := by
  rw [putLease, List.map_map]
  refine List.map_congr_left fun z _ => ?_
  rw [Function.comp_apply]
  split
  next same => exact same.symm
  next => rfl

theorem ids_map_markLease (q : QueueId) (producer : Option Port) (ls : List Lease) :
    (ls.map (markLease q producer)).map (·.id) = ls.map (·.id) := by
  rw [List.map_map]
  refine List.map_congr_left fun z _ => ?_
  rw [Function.comp_apply, markLease]
  split <;> rfl

theorem ids_filter_sublist (ls : List Lease) (f : Lease → Bool) :
    ((ls.filter f).map (·.id)).Sublist (ls.map (·.id)) :=
  List.filter_sublist.map _

theorem nextId_iterate_ok {c : Nat} (hc : LeaseIdOk c) (k : Nat) : LeaseIdOk (nextId^[k] c) := by
  obtain ⟨h1, h2⟩ := hc
  rw [nextId_iterate c k h1 h2, LeaseIdOk]
  omega

/-- The first ids from `c` on do not meet before the round is complete. -/
theorem nodup_nextId_iterates {c n : Nat} (hc : LeaseIdOk c) (hn : n ≤ 255) :
    ((List.range n).map fun k => nextId^[k] c).Nodup := by
  obtain ⟨h1, h2⟩ := hc
  refine List.nodup_range.map_on fun i hi j hj same => ?_
  rw [nextId_iterate c i h1 h2, nextId_iterate c j h1 h2] at same
  rw [List.mem_range] at hi hj
  omega

/-- Fewer ids than a round has leave one of a round free. -/
theorem exists_free_id {used : List Nat} {c : Nat} (hc : LeaseIdOk c) (room : used.length < 255) :
    ∃ k, k < 255 ∧ nextId^[k] c ∉ used := by
  by_contra full
  have subset : ((List.range 255).map fun k => nextId^[k] c) ⊆ used := fun id hid => by
    obtain ⟨k, hk, rfl⟩ := List.mem_map.1 hid
    exact of_not_not fun free => full ⟨k, List.mem_range.1 hk, free⟩
  have le := ((nodup_nextId_iterates hc le_rfl).subperm subset).length_le
  rw [List.length_map, List.length_range] at le
  omega

/-- The id set aside is the first one from the counter on that no lease carries (04 R69). -/
theorem freeId_spec {ls : List Lease} {c : Nat} (hc : LeaseIdOk c) (room : ls.length < 255) :
    ∃ k, k < 255 ∧ freeId ls c = nextId^[k] c ∧ freeId ls c ∉ ls.map (·.id) ∧ LeaseIdOk (freeId ls c) ∧
      ∀ j, j < k → nextId^[j] c ∈ ls.map (·.id) := by
  obtain ⟨k, hk, he, hfree, first⟩ := freeIdFrom_spec (ls.map (·.id)) 255 c
    (exists_free_id hc (by rwa [List.length_map]))
  have ok := nextId_iterate_ok hc k
  rw [← he] at hfree ok
  exact ⟨k, hk, he, hfree, ok, first⟩

/-! ### What keeps the lists sound -/

/-- The leases of each port are sound in `t` wherever they are in `s`. -/
structure LeasesKept (s t : State) : Prop where
  sound : ∀ {p}, LeasesSound s.leases p → LeasesSound t.leases p

theorem LeasesKept.refl (s : State) : LeasesKept s s := ⟨id⟩

theorem LeasesKept.trans {s t u : State} (h : LeasesKept s t) (k : LeasesKept t u) : LeasesKept s u :=
  ⟨k.sound ∘ h.sound⟩

/-- Leases leave the list or change but for their ids, and no Take begins. -/
theorem LeasesSound.of_ids_sublist {x y : Leases} {p : Port} (hx : LeasesSound x p)
    (ids : ((sel y.lists p).map (·.id)).Sublist ((sel x.lists p).map (·.id))) (counter : LeaseIdOk (sel y.counter p))
    (takes : ∀ t, sel y.takes p = some t → ∃ u, sel x.takes p = some u ∧ u.id = t.id) : LeasesSound y p := by
  have shorter : (sel y.lists p).length ≤ (sel x.lists p).length := by
    simpa only [List.length_map] using ids.length_le
  have carried {l : Lease} (hl : l ∈ sel y.lists p) : ∃ l' ∈ sel x.lists p, l'.id = l.id :=
    List.mem_map.1 (ids.subset (List.mem_map_of_mem hl))
  refine ⟨shorter.trans hx.atMost, hx.ids.sublist ids, fun l hl => ?_, counter, fun t ht => ?_⟩
  · obtain ⟨l', hl', same⟩ := carried hl
    exact same ▸ hx.inRange l' hl'
  · obtain ⟨u, hu, same⟩ := takes t ht
    obtain ⟨room, ok, free⟩ := hx.aside u hu
    refine ⟨shorter.trans room, same ▸ ok, fun l hl => ?_⟩
    obtain ⟨l', hl', same'⟩ := carried hl
    exact same ▸ same' ▸ free l' hl'

/-- A Take sets aside a free id at a port with room (04 R69). -/
theorem LeasesSound.of_take {x y : Leases} {p : Port} {t : TakeBusy} (hx : LeasesSound x p)
    (lists : sel y.lists p = sel x.lists p) (counter : sel y.counter p = sel x.counter p)
    (takes : sel y.takes p = some t) (room : (sel x.lists p).length ≤ 15) (ok : LeaseIdOk t.id)
    (free : t.id ∉ (sel x.lists p).map (·.id)) : LeasesSound y p := by
  refine ⟨lists ▸ hx.atMost, lists ▸ hx.ids, lists ▸ hx.inRange, counter ▸ hx.counter, fun t' ht' => ?_⟩
  obtain rfl : t = t' := Option.some.inj (takes.symm.trans ht')
  rw [lists]
  exact ⟨room, ok, fun l hl same => free (same ▸ List.mem_map_of_mem hl)⟩

/-- A lease joins the list under the id set aside for it, and its Take ends (04 R72). -/
theorem LeasesSound.of_lease {x y : Leases} {p : Port} {t : TakeBusy} {l : Lease} (hx : LeasesSound x p)
    (busy : sel x.takes p = some t) (named : l.id = t.id) (lists : sel y.lists p = sel x.lists p ++ [l])
    (counter : LeaseIdOk (sel y.counter p)) (takes : sel y.takes p = none) : LeasesSound y p := by
  obtain ⟨room, ok, free⟩ := hx.aside t busy
  refine ⟨?_, ?_, ?_, counter, fun _ ht => absurd (takes.symm.trans ht) (by simp)⟩ <;> rw [lists]
  · rw [List.length_append, List.length_singleton]
    omega
  · rw [List.map_append, List.map_singleton, List.nodup_append]
    refine ⟨hx.ids, List.nodup_singleton _, fun a ha b hb => ?_⟩
    obtain ⟨z, hz, rfl⟩ := List.mem_map.1 ha
    rw [List.mem_singleton.1 hb, named]
    exact free z hz
  · intro z hz
    rcases List.mem_append.1 hz with hz | hz
    · exact hx.inRange z hz
    · rw [List.mem_singleton.1 hz, named]
      exact ok

/-- Lists, counters and Takes untouched. -/
theorem LeasesKept.of_same {s t : State} (lists : t.leases.lists = s.leases.lists)
    (counter : t.leases.counter = s.leases.counter) (takes : t.leases.takes = s.leases.takes) : LeasesKept s t :=
  ⟨fun h => h.of_ids_sublist (lists ▸ .refl _) (counter ▸ h.counter) fun u hu => ⟨u, takes ▸ hu, rfl⟩⟩

theorem LeasesKept.of_leases_eq {s t : State} (h : t.leases = s.leases) : LeasesKept s t :=
  .of_same (by rw [h]) (by rw [h]) (by rw [h])

/-- Nothing but messages in flight changes after the step. -/
theorem LeasesKept.sent {s t u : State} (h : LeasesKept s t) (e : u.leases = t.leases) : LeasesKept s u :=
  h.trans (.of_leases_eq e)

/-- The list of one port loses leases, or changes them but for their ids. -/
theorem LeasesKept.of_list {s t : State} {p : Port} {ls : List Lease}
    (lists : t.leases.lists = upd s.leases.lists p ls) (counter : t.leases.counter = s.leases.counter)
    (takes : t.leases.takes = s.leases.takes)
    (ids : (ls.map (·.id)).Sublist ((sel s.leases.lists p).map (·.id))) : LeasesKept s t := by
  refine ⟨fun h => h.of_ids_sublist ?_ (counter ▸ h.counter) fun u hu => ⟨u, takes ▸ hu, rfl⟩⟩
  rw [lists, sel_upd]
  split
  next same => exact same ▸ ids
  next => exact .refl _

/-! ### The lease manager's operations -/

theorem setLeaseList_kept {p : Port} {ls : List Lease} {s : State}
    (ids : (ls.map (·.id)).Sublist ((sel s.leases.lists p).map (·.id))) : LeasesKept s (setLeaseList p ls s) :=
  .of_list rfl rfl rfl ids

theorem restLease_kept (src : Source) (l : List LeaseMsg) (s : State) : LeasesKept s (restLease src l s) :=
  .of_leases_eq rfl

theorem reply_kept (p : Port) (st : Status) (payload : List Byte) (s : State) :
    LeasesKept s (reply p st payload s) :=
  .of_leases_eq rfl

@[simp] theorem freeMessage_leases (q : QueueId) (m : Message) (s : State) : (freeMessage q m s).leases = s.leases :=
  rfl

/-- The redelivery path touches no lease: of the lease manager, at most an outstanding request is added. -/
theorem redeliver_leases (q : QueueId) (m : Message) (discarded : Bool) (s : State) :
    ∃ o, (redeliver q m discarded s).leases = { s.leases with outstanding := o } := by
  unfold redeliver
  split <;> exact ⟨_, rfl⟩

theorem redeliver_kept (q : QueueId) (m : Message) (discarded : Bool) (s : State) :
    LeasesKept s (redeliver q m discarded s) := by
  obtain ⟨o, ho⟩ := redeliver_leases q m discarded s
  exact .of_same (by rw [ho]) (by rw [ho]) (by rw [ho])

theorem leaseCleanup_kept (p : Port) (s : State) : LeasesKept s (leaseCleanup p s) := by
  unfold leaseCleanup
  split
  · exact .of_same rfl rfl rfl
  · refine LeasesKept.sent (.trans ?_ (foldl_step .refl .trans
      (fun u (l : Lease) => redeliver_kept l.queue l.message false u) _ _)) (reportCleanup_leases ..)
    exact .of_list rfl rfl rfl (List.nil_sublist _)

theorem leaseDeferred_kept (p : Port) (s : State) : LeasesKept s (leaseDeferred p s) := by
  unfold leaseDeferred
  split
  · exact leaseCleanup_kept p s
  · exact .refl s

theorem judgeTake_kept (p : Port) (payload : List Byte) (s : State) : LeasesKept s (judgeTake p payload s) := by
  simp only [judgeTake]
  split
  · exact (reply_kept ..).trans (leaseDeferred_kept ..)
  next room =>
    split
    · exact (reply_kept ..).trans (leaseDeferred_kept ..)
    next q _ =>
      refine ⟨fun {k} sound => ?_⟩
      have few : (sel s.leases.lists p).length ≤ 15 := by
        rw [Config.leaseLimit] at room
        omega
      by_cases same : p = k
      · subst same
        obtain ⟨_, _, _, free, ok, _⟩ := freeId_spec (ls := sel s.leases.lists p) sound.counter (by omega)
        exact sound.of_take rfl rfl (sel_upd_same ..) few ok free
      · exact sound.of_ids_sublist (.refl _) sound.counter fun u hu => ⟨u, by
          rwa [sendQueue_leases, State.setLeases_leases, sel_upd_ne _ _ same] at hu, rfl⟩

/-- A Take that ends frees its place. -/
theorem endTake_kept (p : Port) (s : State) :
    LeasesKept s (s.setLeases { s.leases with takes := upd s.leases.takes p none }) := by
  refine ⟨fun sound => sound.of_ids_sublist (.refl _) sound.counter fun u hu => ⟨u, ?_, rfl⟩⟩
  rw [State.setLeases_leases, sel_upd] at hu
  split at hu
  · cases hu
  · exact hu

theorem createLease_kept {p : Port} {t : TakeBusy} {s : State} (busy : sel s.leases.takes p = some t) (m : Message)
    (period : Nat) (mode : Delivery) : LeasesKept s (createLease p t m period mode s) := by
  refine ⟨fun {k} sound => ?_⟩
  have counter (same : p = k) : LeaseIdOk (sel (upd s.leases.counter p (nextId t.id)) k) := by
    subst same
    rw [sel_upd_same]
    exact nextId_iterate_ok (sound.aside t busy).2.1 1
  by_cases same : p = k
  · subst same
    simp only [createLease]
    split
    · exact sound.of_ids_sublist (.refl _) (counter rfl) fun u hu =>
        absurd ((sel_upd_same ..).symm.trans hu) (by simp)
    · exact sound.of_lease busy rfl (sel_upd_same ..) (counter rfl) (sel_upd_same ..)
  · have others : sel (createLease p t m period mode s).leases.lists k = sel s.leases.lists k ∧
        sel (createLease p t m period mode s).leases.counter k = sel s.leases.counter k ∧
        sel (createLease p t m period mode s).leases.takes k = sel s.leases.takes k := by
      simp only [createLease]
      split <;> simp [sel_upd_ne _ _ same]
    obtain ⟨lists, counters, takes⟩ := others
    exact sound.of_ids_sublist (lists ▸ .refl _) (counters ▸ sound.counter) fun u hu => ⟨u, takes ▸ hu, rfl⟩

theorem takeHeadAnswer_kept (p : Port) (a : HeadAnswer) (s : State) : LeasesKept s (takeHeadAnswer p a s) := by
  simp only [takeHeadAnswer]
  split
  · exact .refl s
  next t busy =>
    refine LeasesKept.trans ?_ (leaseDeferred_kept ..)
    split
    · exact (endTake_kept p s).sent rfl
    · split
      · exact (endTake_kept p s).sent rfl
      · exact createLease_kept busy ..

theorem judgeRead_kept (p : Port) (payload : List Byte) (s : State) : LeasesKept s (judgeRead p payload s) := by
  simp only [judgeRead]
  repeat' split
  · exact reply_kept ..
  · exact reply_kept ..
  · exact reply_kept ..
  · exact .of_list rfl rfl rfl (ids_filter_sublist ..)
  · exact .of_list rfl rfl rfl (by rw [ids_putLease])

theorem judgeSettle_kept (p : Port) (payload : List Byte) (s : State) : LeasesKept s (judgeSettle p payload s) := by
  have dropped (id : Nat) : LeasesKept s (setLeaseList p (dropLease (sel s.leases.lists p) id) s) :=
    setLeaseList_kept (ids_filter_sublist ..)
  simp only [judgeSettle]
  repeat' split
  · exact reply_kept ..
  · exact reply_kept ..
  · exact (dropped _).sent rfl
  · exact ((dropped _).trans (redeliver_kept ..)).sent rfl
  · exact ((dropped _).trans (redeliver_kept ..)).sent rfl

theorem judgeExtend_kept (p : Port) (payload : List Byte) (s : State) : LeasesKept s (judgeExtend p payload s) := by
  simp only [judgeExtend]
  repeat' split
  · exact reply_kept ..
  · exact reply_kept ..
  · exact .of_list rfl rfl rfl (by rw [ids_putLease])

theorem judgeLease_kept (x : LeaseMsg) (s : State) : LeasesKept s (judgeLease x s) := by
  unfold judgeLease
  split
  · exact judgeTake_kept ..
  · exact judgeRead_kept ..
  · exact judgeSettle_kept ..
  · exact judgeExtend_kept ..
  · exact .refl s

theorem takeLeaseRequest_kept (p : Port) (r : Req) (s : State) : LeasesKept s (takeLeaseRequest p r s) := by
  unfold takeLeaseRequest
  repeat' split
  · exact .of_same rfl rfl rfl
  · exact (restLease_kept ..).trans (judgeLease_kept ..)
  · exact .refl s
  · exact .refl s

theorem expireLease_kept (p : Port) (s : State) (l : Lease) : LeasesKept s (expireLease p s l) := by
  refine LeasesKept.trans ?_ (redeliver_kept ..)
  exact .of_leases_eq rfl

theorem expirePort_kept (s : State) (p : Port) : LeasesKept s (expirePort s p) :=
  (setLeaseList_kept (ids_filter_sublist ..)).trans (foldl_step .refl .trans (expireLease_kept p) _ _)

theorem advance_kept (s : State) : LeasesKept s (advance s) := by
  refine LeasesKept.trans ?_ (foldl_step .refl .trans expirePort_kept allPorts _)
  exact .of_same rfl rfl rfl

theorem releaseHeldLease_kept (held : List LeaseMsg) (s : State) : LeasesKept s (releaseHeldLease held s) := by
  induction held generalizing s with
  | nil => exact .refl s
  | cons m rest ih =>
    refine LeasesKept.trans (.trans ?_ (judgeLease_kept ..)) (ih _)
    exact .of_same rfl rfl rfl

/-! ### The commands -/

/-- The commands that can change the lease manager: those it carries out itself, and device reset; RESET_RELEASE stands
here because `scopeOf` leaves it to its meaning. -/
inductive ReachesLeases : Instr → Prop
  | take (p : Port) : ReachesLeases (.take (.taken p))
  | read (p : Port) : ReachesLeases (.read (.taken p))
  | settle (p : Port) : ReachesLeases (.settle (.taken p))
  | extend (p : Port) : ReachesLeases (.extend (.taken p))
  | sessionEnd (p : Port) : ReachesLeases (.leaseSessionEnd p)
  | attach (p : Port) : ReachesLeases (.leaseAttach p)
  | headAnswer : ReachesLeases .headRemovalAnswer
  | deadAnswer : ReachesLeases .deadLetterAnswer
  | purgeMark : ReachesLeases .purgeMarkRequest
  | settings : ReachesLeases .settingsNotice
  | expiry (p : Port) (id : Nat) : ReachesLeases (.leaseExpiry p id)
  | timeBase : ReachesLeases .timeBaseAdvance
  | clearingOrder : ReachesLeases .leaseClearingOrder
  | completion : ReachesLeases .leaseResetCompletion
  | deviceReset : ReachesLeases .deviceReset
  | resetRelease : ReachesLeases .resetRelease

/-- Every other command leaves the lease manager as it is. -/
theorem leases_eq_or_reachesLeases {c : Instr} {s t : State} (h : scopeOf c s t) :
    t.leases = s.leases ∨ ReachesLeases c := by
  unfold scopeOf at h
  split at h
  all_goals first
    | exact .inl h.2.1
    | exact .inl h.2.2.1
    | exact .inl h.2.2.2.1
    | exact .inr (by constructor)

theorem leaseSessionEnd_kept {p : Port} {s t : State} (h : exec (.leaseSessionEnd p) s = .next t) :
    LeasesKept s t := by
  cases h
  repeat' split
  · exact (restLease_kept ..).trans (leaseCleanup_kept ..)
  · exact .refl s
  · exact .refl s

theorem leaseAttach_kept {p : Port} {s t : State} (h : exec (.leaseAttach p) s = .next t) : LeasesKept s t := by
  cases h
  repeat' split
  · refine ⟨fun {k} sound => sound.of_ids_sublist (.refl _) ?_ fun u hu => ⟨u, hu, rfl⟩⟩
    show LeaseIdOk (sel (upd s.leases.counter p 1) k)
    rw [sel_upd]
    split
    · exact ⟨le_rfl, by omega⟩
    · exact sound.counter
  · exact .refl s
  · exact .refl s

theorem headRemovalAnswer_kept {s t : State} (h : exec .headRemovalAnswer s = .next t) : LeasesKept s t := by
  cases h
  split
  · exact (restLease_kept ..).trans (takeHeadAnswer_kept ..)
  · exact .refl s

theorem deadLetterAnswer_kept {s t : State} (h : exec .deadLetterAnswer s = .next t) : LeasesKept s t := by
  cases h
  dsimp only
  repeat' split
  all_goals exact .of_same rfl rfl rfl

theorem purgeMarkRequest_kept {s t : State} (h : exec .purgeMarkRequest s = .next t) : LeasesKept s t := by
  cases h
  split
  next q producer rest _ =>
    have marked (u : State) (p : Port) : LeasesKept u
        (setLeaseList p ((sel u.leases.lists p).map (markLease q producer)) u) :=
      setLeaseList_kept (by rw [ids_map_markLease])
    exact (restLease_kept ..).trans (foldl_step .refl .trans marked _ _)
  · exact .refl s

theorem settingsNotice_kept {s t : State} (h : exec .settingsNotice s = .next t) : LeasesKept s t := by
  cases h
  split <;> exact .of_same rfl rfl rfl

theorem leaseExpiry_kept {p : Port} {id : Nat} {s t : State} (h : exec (.leaseExpiry p id) s = .next t) :
    LeasesKept s t := by
  cases h
  repeat' split
  · exact advance_kept s
  · exact .refl s
  · exact .refl s

theorem timeBaseAdvance_kept {s t : State} (h : exec .timeBaseAdvance s = .next t) : LeasesKept s t := by
  cases h
  split
  · exact .refl s
  · exact advance_kept s

theorem leaseClearingOrder_kept {s t : State} (h : exec .leaseClearingOrder s = .next t) : LeasesKept s t := by
  cases h
  split
  · refine ⟨fun {p} sound => sound.of_ids_sublist ?_ sound.counter fun u hu => ?_⟩
    · show ((sel (Vector.replicate 4 []) p).map _).Sublist _
      rw [sel_replicate]
      exact List.nil_sublist _
    · obtain ⟨b, hb, rfl⟩ := Option.map_eq_some_iff.1 ((sel_map ..).symm.trans hu)
      exact ⟨b, hb, rfl⟩
  · exact .refl s

theorem leaseResetCompletion_kept {s t : State} (h : exec .leaseResetCompletion s = .next t) : LeasesKept s t := by
  cases h
  split
  · refine LeasesKept.trans ?_ (releaseHeldLease_kept ..)
    exact .of_same rfl rfl rfl
  · exact .refl s

theorem exec_keeps_leases {c : Instr} {s t : State} (h : exec c s = .next t) : LeasesKept s t := by
  obtain ⟨u, hu, scope⟩ := exec_scope c s
  obtain rfl : u = t := by simpa [hu] using h
  rcases leases_eq_or_reachesLeases scope with same | reaches
  · exact .of_leases_eq same
  · cases reaches with
    | take | read | settle | extend => cases h; exact takeLeaseRequest_kept ..
    | sessionEnd => exact leaseSessionEnd_kept h
    | attach => exact leaseAttach_kept h
    | headAnswer => exact headRemovalAnswer_kept h
    | deadAnswer => exact deadLetterAnswer_kept h
    | purgeMark => exact purgeMarkRequest_kept h
    | settings => exact settingsNotice_kept h
    | expiry => exact leaseExpiry_kept h
    | timeBase => exact timeBaseAdvance_kept h
    | clearingOrder => exact leaseClearingOrder_kept h
    | completion => exact leaseResetCompletion_kept h
    | deviceReset => cases h; exact ⟨fun _ => reset_leasesSound _⟩
    | resetRelease => cases h; exact .of_leases_eq rfl

theorem step_keeps_leases {s t : State} (h : step s = .next t) : LeasesKept s t := by
  unfold step at h
  split at h
  next => cases h; exact .refl s
  next c rest _ =>
    have front : LeasesKept s { s with pending := rest } := .of_leases_eq rfl
    exact front.trans (exec_keeps_leases h)

end Sys2Proof.Machine
end

section
/-! SUPPORT. What the lease manager does with the message it takes: the requests of the ports, the answer to a head
removal, the advance of the time base, and its part of a session end (04 R66 to R86, 05 R94). -/

namespace Sys2Proof.Machine

/-! ### The requests of the ports -/

/-- The requests the lease manager takes of a port, each with the command that takes it. -/
def leaseRequests (p : Port) : List (Req × Instr) :=
  [(.take, .take (.taken p)), (.read, .read (.taken p)), (.settle, .settle (.taken p)),
    (.extend, .extend (.taken p))]

theorem exec_eq_takeLeaseRequest {p : Port} {r : Req} {c : Instr} (hc : (r, c) ∈ leaseRequests p) (s : State) :
    exec c s = .next (takeLeaseRequest p r s) := by
  simp only [leaseRequests, List.mem_cons, Prod.mk.injEq, List.not_mem_nil, or_false] at hc
  rcases hc with ⟨rfl, rfl⟩ | ⟨rfl, rfl⟩ | ⟨rfl, rfl⟩ | ⟨rfl, rfl⟩ <;> rfl

section
variable {s : State} {p : Port} {r : Req} {c : Instr} {payload : List Byte} {rest : List LeaseMsg}

/-- In the reset hold a request is held (04 R86). -/
theorem exec_leaseRequest_of_hold (hc : (r, c) ∈ leaseRequests p)
    (h : s.links.toLease.sent (.port p) = .request p r payload :: rest) (hold : s.leases.hold = true) :
    exec c s = .next ((restLease (.port p) rest s).setLeases
      { s.leases with held := s.leases.held ++ [.request p r payload] }) := by
  rw [exec_eq_takeLeaseRequest hc]
  simp only [takeLeaseRequest, h, and_self, if_true, hold]

theorem exec_leaseRequest_of_not_hold (hc : (r, c) ∈ leaseRequests p)
    (h : s.links.toLease.sent (.port p) = .request p r payload :: rest) (hold : s.leases.hold = false) :
    exec c s = .next (judgeLease (.request p r payload) (restLease (.port p) rest s)) := by
  rw [exec_eq_takeLeaseRequest hc]
  simp only [takeLeaseRequest, h, and_self, if_true, hold, Bool.false_eq_true, if_false]

end

/-! ### Take -/

section
variable {s : State} {p : Port} {payload : List Byte}

theorem judgeTake_of_full (full : (sel s.leases.lists p).length = 16) :
    judgeTake p payload s = leaseDeferred p (reply p .leaseLimit [16] s) := by
  simp only [judgeTake, full]
  rfl

theorem judgeTake_of_none (room : (sel s.leases.lists p).length < 16) (h : parseQueue payload = none) :
    judgeTake p payload s = leaseDeferred p (reply p .range [] s) := by
  have free : ¬Config.leaseLimit ≤ (sel s.leases.lists p).length := room.not_ge
  simp only [judgeTake, free, if_false, h]

theorem judgeTake_of_some {q : QueueId} (room : (sel s.leases.lists p).length < 16)
    (h : parseQueue payload = some q) :
    judgeTake p payload s = sendQueue .lease (.headRemoval p q) (s.setLeases { s.leases with
      takes := upd s.leases.takes p
        (some { id := freeId (sel s.leases.lists p) (sel s.leases.counter p), queue := q, overtaken := false }) }) := by
  have free : ¬Config.leaseLimit ≤ (sel s.leases.lists p).length := room.not_ge
  simp only [judgeTake, free, if_false, h]

end

/-! ### The answer to a head removal -/

theorem exec_headRemovalAnswer {s : State} {p : Port} {a : HeadAnswer} {rest : List LeaseMsg}
    (h : s.links.toLease.sent .queue = .headAnswer p a :: rest) :
    exec .headRemovalAnswer s = .next (takeHeadAnswer p a (restLease .queue rest s)) := by
  simp only [exec, execHeadRemovalAnswer, h]

section
variable {s : State} {p : Port} {t : TakeBusy}

theorem takeHeadAnswer_refused (busy : sel s.leases.takes p = some t) (st : Status) :
    takeHeadAnswer p (.refused st) s =
      leaseDeferred p (reply p st [] (s.setLeases { s.leases with takes := upd s.leases.takes p none })) := by
  simp only [takeHeadAnswer, busy]

theorem takeHeadAnswer_overtaken (busy : sel s.leases.takes p = some t) (late : t.overtaken = true) (m : Message)
    (period : Nat) (mode : Delivery) :
    takeHeadAnswer p (.message m period mode) s =
      leaseDeferred p (reply p .empty [] (s.setLeases { s.leases with takes := upd s.leases.takes p none })) := by
  simp only [takeHeadAnswer, busy, late, if_true]

theorem takeHeadAnswer_message (busy : sel s.leases.takes p = some t) (late : t.overtaken = false) (m : Message)
    (period : Nat) (mode : Delivery) :
    takeHeadAnswer p (.message m period mode) s = leaseDeferred p (createLease p t m period mode s) := by
  simp only [takeHeadAnswer, busy, late, Bool.false_eq_true, if_false]

end

/-- A Streamed message that the first chunk covers is settled at once (04 R73). -/
theorem createLease_of_covered (p : Port) (t : TakeBusy) {m : Message} (period : Nat) (s : State)
    (short : m.length ≤ 256) :
    createLease p t m period .streamed s =
      freeMessage t.queue m (reply p .ok (takeBytes 0 0 true t.queue m (fetchBytes m.chain s.pool.cells 0 m.length))
        (s.setLeases { s.leases with
          counter := upd s.leases.counter p (nextId t.id), takes := upd s.leases.takes p none })) := by
  have covered : m.length ≤ Config.chunkLimit := short
  simp only [createLease, covered, and_self, if_true, min_eq_left]

/-- Any other message gets a lease at the tail of the list (04 R72). -/
theorem createLease_of_not_covered (p : Port) (t : TakeBusy) {m : Message} (period : Nat) {mode : Delivery} (s : State)
    (h : mode = .confirmed ∨ 256 < m.length) :
    createLease p t m period mode s =
      reply p .ok (takeBytes t.id period false t.queue m (fetchBytes m.chain s.pool.cells 0 (min m.length 256)))
        (s.setLeases { s.leases with
          counter := upd s.leases.counter p (nextId t.id), takes := upd s.leases.takes p none
          lists := upd s.leases.lists p (sel s.leases.lists p ++
            [{ id := t.id, queue := t.queue, mode, message := m, deadline := s.leases.timeBase + BitVec.ofNat 32 period,
               delivered := min m.length 256 }]) }) := by
  have standing : ¬(mode = .streamed ∧ m.length ≤ Config.chunkLimit) := by
    rintro ⟨rfl, short⟩
    rw [Config.chunkLimit] at short
    simp only [reduceCtorEq, false_or] at h
    omega
  simp only [createLease, standing, if_false]
  rfl

/-- Bits 0 to 2 of the first byte of a descriptor say which optional fields are present (04 R74). -/
theorem presence_eq (corr reply origin : Bool) : bit corr ||| (bit reply <<< 1) ||| (bit origin <<< 2) =
    BitVec.ofNat 8 ((if corr then 1 else 0) + (if reply then 2 else 0) + if origin then 4 else 0) := by
  revert corr reply origin
  decide

/-! ### Read, Settle, Extend -/

/-- In a list of distinct ids, the lease that carries an id is the one changed. -/
theorem putLease_of_mem {ls : List Lease} (distinct : (ls.map (·.id)).Nodup) {l : Lease} (hl : l ∈ ls)
    (f : Lease → Lease) (hf : (f l).id = l.id) :
    putLease ls (f l) = ls.map fun z => if z.id = l.id then f z else z := by
  refine List.map_congr_left fun z hz => ?_
  rw [hf]
  split
  next same => rw [List.inj_on_of_nodup_map distinct hz hl same]
  next => rfl

theorem parseRead_bytes (id : Byte) {offset count : Nat} (ho : offset < 65536) (hc : count < 65536) :
    parseRead (id :: (byte2 offset ++ byte2 count)) = some (id.toNat, offset, count) := by
  show some (id.toNat, nat2 _ _, nat2 _ _) = _
  rw [nat2_byte2 ho, nat2_byte2 hc]

theorem parseRead_eq_none_of_length {payload : List Byte} (h : payload.length ≠ 5) : parseRead payload = none := by
  unfold parseRead
  split
  · exact absurd rfl h
  · rfl

theorem parseSettle_of_undefined (id : Byte) {o : Byte} (h1 : o ≠ 1) (h2 : o ≠ 2) (h3 : o ≠ 3) :
    parseSettle [id, o] = none := by
  simp only [parseSettle, h1, h2, h3, if_false]

theorem parseSettle_of_defined (id : Byte) {o : Byte} (h : o = 1 ∨ o = 2 ∨ o = 3) :
    ∃ outcome, parseSettle [id, o] = some (id.toNat, outcome) := by
  rcases h with rfl | rfl | rfl <;> exact ⟨_, rfl⟩

theorem parseSettle_eq_none_of_length {payload : List Byte} (h : payload.length ≠ 2) :
    parseSettle payload = none := by
  unfold parseSettle
  split
  · exact absurd rfl h
  · rfl

theorem parseExtend_eq_none_of_length {payload : List Byte} (h : payload.length ≠ 1) :
    parseExtend payload = none := by
  unfold parseExtend
  split
  · exact absurd rfl h
  · rfl

section
variable {s : State} {p : Port} {payload : List Byte} {id : Nat}

theorem judgeRead_of_none (h : parseRead payload = none) : judgeRead p payload s = reply p .range [] s := by
  simp only [judgeRead, h]

theorem judgeRead_of_unknown {x : Nat × Nat} (h : parseRead payload = some (id, x))
    (unknown : findLease (sel s.leases.lists p) id = none) :
    judgeRead p payload s = reply p .leaseUnknown [] s := by
  simp only [judgeRead, h, unknown]

/-- The checks of a Read at its lease in their order, and its two endings (04 R75, R76). -/
theorem judgeRead_of_found {offset count : Nat} {l : Lease} (h : parseRead payload = some (id, offset, count))
    (found : findLease (sel s.leases.lists p) id = some l) :
    judgeRead p payload s =
      if count = 0 ∨ 256 < count ∨ l.message.length < offset + count then reply p .range [] s
      else
        let delivered := max l.delivered (offset + count)
        let completed := l.mode = .streamed ∧ delivered = l.message.length
        let s1 := reply p .ok (byte2 delivered ++ byte2 (remaining l.deadline s.leases.timeBase) ++ [bit completed] ++
          fetchBytes l.message.chain s.pool.cells offset count) s
        if completed then
          freeMessage l.queue l.message (setLeaseList p (dropLease (sel s.leases.lists p) id) s1)
        else setLeaseList p (putLease (sel s.leases.lists p) { l with delivered }) s1 := by
  simp only [judgeRead, h, found]
  rfl

theorem judgeSettle_of_none (h : parseSettle payload = none) : judgeSettle p payload s = reply p .range [] s := by
  simp only [judgeSettle, h]

theorem judgeSettle_of_unknown {o : SettleOutcome} (h : parseSettle payload = some (id, o))
    (unknown : findLease (sel s.leases.lists p) id = none) :
    judgeSettle p payload s = reply p .leaseUnknown [] s := by
  simp only [judgeSettle, h, unknown]

theorem judgeSettle_accept {l : Lease} (h : parseSettle payload = some (id, .accept))
    (found : findLease (sel s.leases.lists p) id = some l) :
    judgeSettle p payload s = reply p .ok [BitVec.ofNat 8 l.message.deliveries, 1]
      (freeMessage l.queue l.message (setLeaseList p (dropLease (sel s.leases.lists p) id) s)) := by
  simp only [judgeSettle, h, found]
  rfl

/-- The code of the disposition, check by check (05 R91 to R93). -/
theorem disposition_code (m : Message) (limit : Nat) (discarded : Bool) :
    (disposition m limit discarded).code =
      if m.purged then 1 else if discarded then 3 else if m.deliveries < limit then 2 else 3 := by
  unfold disposition
  split_ifs <;> rfl

/-- Return and Discard send the message down the redelivery path, and answer where it led (04 R79). -/
theorem judgeSettle_path {o : SettleOutcome} {l : Lease} {discarded : Bool}
    (ho : (o, discarded) ∈ [(SettleOutcome.giveBack, false), (.discard, true)])
    (h : parseSettle payload = some (id, o)) (found : findLease (sel s.leases.lists p) id = some l) :
    judgeSettle p payload s =
      reply p .ok [BitVec.ofNat 8 (l.message.deliveries + 1),
          if l.message.purged then 1 else if discarded then 3
            else if l.message.deliveries + 1 < sel s.leases.limits l.queue then 2 else 3]
        (redeliver l.queue l.message discarded
          (setLeaseList p (dropLease (sel s.leases.lists p) id) s)) := by
  simp only [List.mem_cons, Prod.mk.injEq, List.not_mem_nil, or_false] at ho
  rcases ho with ⟨rfl, rfl⟩ | ⟨rfl, rfl⟩ <;>
    · simp only [judgeSettle, h, found, pathOf, disposition_code]
      rfl

theorem judgeExtend_of_none (h : parseExtend payload = none) : judgeExtend p payload s = reply p .range [] s := by
  simp only [judgeExtend, h]

theorem judgeExtend_of_unknown (h : parseExtend payload = some id)
    (unknown : findLease (sel s.leases.lists p) id = none) :
    judgeExtend p payload s = reply p .leaseUnknown [] s := by
  simp only [judgeExtend, h, unknown]

/-- The lease that carries the id is the one extended, the ids being distinct (04 R80). -/
theorem judgeExtend_of_mem {l : Lease} (distinct : ((sel s.leases.lists p).map (·.id)).Nodup)
    (hl : l ∈ sel s.leases.lists p) (h : parseExtend payload = some l.id) :
    judgeExtend p payload s =
      reply p .ok (byte2 (sel s.leases.periods l.queue)) (setLeaseList p ((sel s.leases.lists p).map fun z =>
        if z.id = l.id then
          { z with deadline := s.leases.timeBase + BitVec.ofNat 32 (sel s.leases.periods l.queue) }
        else z) s) := by
  have extended := putLease_of_mem distinct hl (fun z => { z with
    deadline := s.leases.timeBase + BitVec.ofNat 32 (sel s.leases.periods l.queue) }) rfl
  simp only [judgeExtend, h, findLease_of_mem distinct hl, extended]

end

/-! ### The time base and expiry -/

/-- The expiries of a port, its list and the time base being those of `x`. -/
def expireOf (x : Leases) (u : State) (p : Port) : State :=
  ((sel x.lists p).filter fun l => l.deadline = x.timeBase).foldl
    (fun u l => redeliver l.queue l.message false (postNote .lease p (.leaseExpired l.id l.queue) u))
    (setLeaseList p ((sel x.lists p).filter fun l => l.deadline ≠ x.timeBase) u)

theorem expirePort_eq_expireOf {x : Leases} {u : State} {p : Port} (lists : sel u.leases.lists p = sel x.lists p)
    (time : u.leases.timeBase = x.timeBase) : expirePort u p = expireOf x u p := by
  simp only [expirePort, expireOf, lists, time, ne_eq]
  rfl

theorem expirePort_leases (u : State) (p : Port) : ∃ o, (expirePort u p).leases = { u.leases with
    lists := upd u.leases.lists p ((sel u.leases.lists p).filter fun l => l.deadline ≠ u.leases.timeBase)
    outstanding := o } := by
  have expired (ls : List Lease) (v : State) :
      ∃ o, (ls.foldl (expireLease p) v).leases = { v.leases with outstanding := o } := by
    induction ls generalizing v with
    | nil => exact ⟨_, rfl⟩
    | cons l ls ih =>
      obtain ⟨o, ho⟩ := ih (expireLease p v l)
      obtain ⟨o', ho'⟩ := redeliver_leases l.queue l.message false (postNote .lease p (.leaseExpired l.id l.queue) v)
      exact ⟨o, ho.trans (by rw [expireLease, ho', postNote_leases])⟩
  rw [expirePort_eq_expireOf rfl rfl]
  obtain ⟨o, ho⟩ := expired _ _
  exact ⟨o, ho⟩

/-- The expiries at some ports leave the time base, and the lists of the other ports. -/
theorem foldl_expirePort_leases (ps : List Port) (u : State) :
    (ps.foldl expirePort u).leases.timeBase = u.leases.timeBase ∧ ∀ p,
      sel (ps.foldl expirePort u).leases.lists p =
        if p ∈ ps then (sel u.leases.lists p).filter fun l => l.deadline ≠ u.leases.timeBase
        else sel u.leases.lists p := by
  induction ps generalizing u with
  | nil => exact ⟨rfl, fun p => rfl⟩
  | cons k ps ih =>
    obtain ⟨o, ho⟩ := expirePort_leases u k
    obtain ⟨time, lists⟩ := ih (expirePort u k)
    rw [ho] at time lists
    refine ⟨time, fun p => (lists p).trans ?_⟩
    dsimp only
    rw [sel_upd]
    by_cases same : k = p
    · subst same
      simp
    · simp [same, Ne.symm same]

/-- Each port expires what its own list held before. -/
theorem foldl_expirePort_eq {x : Leases} {ps : List Port} (distinct : ps.Nodup) {u : State}
    (time : u.leases.timeBase = x.timeBase) (lists : ∀ p ∈ ps, sel u.leases.lists p = sel x.lists p) :
    ps.foldl expirePort u = ps.foldl (expireOf x) u := by
  induction ps generalizing u with
  | nil => rfl
  | cons k ps ih =>
    obtain ⟨hk, distinct⟩ := List.nodup_cons.1 distinct
    have first := expirePort_eq_expireOf (lists k (by simp)) time
    obtain ⟨o, ho⟩ := expirePort_leases u k
    rw [List.foldl_cons, List.foldl_cons, ← first]
    refine ih distinct (by rw [ho, time]) fun p hp => ?_
    have other : k ≠ p := fun same => hk (same ▸ hp)
    rw [ho]
    exact (sel_upd_ne _ _ other).trans (lists p (List.mem_cons_of_mem k hp))

theorem advance_leases (s : State) : (advance s).leases.timeBase = s.leases.timeBase + 1 ∧ ∀ p,
    sel (advance s).leases.lists p =
      (sel s.leases.lists p).filter fun l => l.deadline ≠ s.leases.timeBase + 1 := by
  obtain ⟨time, lists⟩ := foldl_expirePort_leases allPorts
    (s.setLeases { s.leases with timeBase := s.leases.timeBase + 1 })
  simp only [State.setLeases_leases, mem_allPorts, if_true] at time lists
  simp only [advance]
  exact ⟨time, lists⟩

/-- An advance expires, port by port, what each list held before (04 R66, 05 R94). -/
theorem advance_eq_expireOf (s : State) : advance s =
    allPorts.foldl (expireOf { s.leases with timeBase := s.leases.timeBase + 1 })
      (s.setLeases { s.leases with timeBase := s.leases.timeBase + 1 }) :=
  foldl_expirePort_eq (by decide) rfl fun _ _ => rfl

/-! ### Session end -/

theorem takeHeld_iff (x : Leases) (p : Port) :
    x.takeHeld p = true ↔ ∃ payload, .request p .take payload ∈ x.held := by
  rw [Leases.takeHeld, List.any_eq_true]
  constructor
  · rintro ⟨m, hm, hp⟩
    split at hp
    next a payload =>
      obtain rfl := beq_iff_eq.1 hp
      exact ⟨payload, hm⟩
    next => cases hp
  · rintro ⟨payload, hm⟩
    exact ⟨_, hm, beq_self_eq_true p⟩

/-- A Take of the port is in progress or held (04 R84, R86). -/
def Leases.TakeUnderWay (x : Leases) (p : Port) : Prop :=
  sel x.takes p ≠ none ∨ ∃ payload, .request p .take payload ∈ x.held

theorem Leases.takeUnderWay_iff (x : Leases) (p : Port) :
    ((sel x.takes p).isSome || x.takeHeld p) = true ↔ x.TakeUnderWay p := by
  rw [Bool.or_eq_true, takeHeld_iff, Option.isSome_iff_ne_none]
  rfl

theorem leaseCleanup_of_underWay {p : Port} {s : State} (h : s.leases.TakeUnderWay p) :
    leaseCleanup p s = s.setLeases { s.leases with endDeferred := upd s.leases.endDeferred p true } :=
  if_pos ((s.leases.takeUnderWay_iff p).2 h)

theorem leaseCleanup_of_free {p : Port} {s : State} (h : ¬s.leases.TakeUnderWay p) :
    leaseCleanup p s =
      (reportCleanup p .lease <| (sel s.leases.lists p).foldl (fun u l => redeliver l.queue l.message false u) <|
        s.setLeases { s.leases with
          lists := upd s.leases.lists p [], endDeferred := upd s.leases.endDeferred p false }) :=
  if_neg ((s.leases.takeUnderWay_iff p).not.2 h)

theorem exec_leaseSessionEnd {s : State} {p : Port} {rest : List LeaseMsg}
    (h : s.links.toLease.sent (.port p) = .sessionEnd p :: rest) :
    exec (.leaseSessionEnd p) s = .next (leaseCleanup p (restLease (.port p) rest s)) := by
  simp only [exec, execLeaseSessionEnd, h, if_true]

end Sys2Proof.Machine
end

section
/-! The statements about taking messages and leases. -/

namespace Sys2Proof.Machine

/-- Settles O57: each operation of the lease manager keeps the leases of every port sound, and no other command reaches
them. -/
theorem stepKeepsTheLeases : Obligations.StepKeepsTheLeases := fun _ _ sound h _ =>
  (step_keeps_leases h).sound (sound _)

/-- Settles O34: the checks in their order; the first free id from the counter on. -/
theorem takeSetsAsideAnId : Obligations.TakeSetsAsideAnId := by
  intro s p payload rest h sound s1 held after
  have cmd : (Req.take, Instr.take (.taken p)) ∈ leaseRequests p := by simp [leaseRequests]
  have count : held.length = (sel s.leases.lists p).length := List.length_map ..
  refine ⟨exec_leaseRequest_of_hold cmd h, fun hold full => ?_, fun hold room none => ?_,
    fun q hold room some => ?_⟩ <;>
    rw [exec_leaseRequest_of_not_hold cmd h hold]
  · exact congrArg _ (judgeTake_of_full (s := s1) (count ▸ full))
  · exact congrArg _ (judgeTake_of_none (s := s1) (count ▸ room) none)
  · obtain ⟨k, hk, found, free, ⟨low, high⟩, first⟩ :=
      freeId_spec (ls := sel s.leases.lists p) sound.counter (by omega)
    exact ⟨k, _, hk, found, free, low, high, first,
      congrArg _ (judgeTake_of_some (s := s1) (count ▸ room) some)⟩

/-- Settles O35: each answer by its case; the descriptor by the presence of its optional fields. -/
theorem headRemovalAnswerEndsTheTake : Obligations.HeadRemovalAnswerEndsTheTake := by
  refine ⟨fun s p t a rest h busy => ?_, fun q m => ?_⟩
  · have busy' : sel (restLease .queue rest s).leases.takes p = some t := busy
    rw [exec_headRemovalAnswer h]
    refine ⟨?_, ?_, ?_, ?_⟩
    · rintro st rfl
      exact congrArg _ (takeHeadAnswer_refused busy' st)
    · rintro m period mode rfl late
      exact congrArg _ (takeHeadAnswer_overtaken busy' late m period mode)
    · rintro m period rfl late short
      rw [takeHeadAnswer_message busy' late, createLease_of_covered p t period _ short]
      rfl
    · rintro m period mode rfl late standing
      rw [takeHeadAnswer_message busy' late, createLease_of_not_covered p t period _ standing]
      rfl
  · obtain ⟨producer, cls, length, corr, re, chain, sequence, deliveries, purged, origin⟩ := m
    simp only [descriptor, presence_eq]
    cases cls <;> cases corr <;> cases re <;> rcases origin with _ | ⟨o, _ | _⟩ <;> rfl

/-- Settles O36: the checks in their order; a Read that completes, and one that does not. -/
theorem readDeliversBytes : Obligations.ReadDeliversBytes := by
  have cmd (p : Port) : (Req.read, Instr.read (.taken p)) ∈ leaseRequests p := by simp [leaseRequests]
  refine ⟨fun s p id offset count rest ho hc sound h => ?_, fun s p payload rest h =>
    ⟨exec_leaseRequest_of_hold (cmd p) h, fun hold misfit => ?_⟩⟩
  · have read := parseRead_bytes id ho hc
    refine ⟨exec_leaseRequest_of_hold (cmd p) h, fun hold unknown => ?_, fun l hl hold named => ?_⟩ <;>
      rw [exec_leaseRequest_of_not_hold (cmd p) h hold]
    · exact congrArg _ (judgeRead_of_unknown (s := restLease (.port p) rest s) read (findLease_none unknown))
    · have found := findLease_of_mem sound.ids hl
      rw [named] at found
      refine congrArg _ ((judgeRead_of_found (s := restLease (.port p) rest s) read found).trans ?_)
      refine ite_congr rfl (fun _ => rfl) fun _ => ?_
      by_cases completed : l.mode = .streamed ∧ max l.delivered (offset + count) = l.message.length
      · simp only [completed, and_self, decide_true, if_true]
        rfl
      · simp only [completed, decide_false, Bool.false_eq_true, if_false, putLease, named]
        rfl
  · rw [exec_leaseRequest_of_not_hold (cmd p) h hold]
    exact congrArg _ (judgeRead_of_none (parseRead_eq_none_of_length misfit))

/-- Settles O38: the checks in their order, then the three outcomes. -/
theorem settleEndsTheLease : Obligations.SettleEndsTheLease := by
  have cmd (p : Port) : (Req.settle, Instr.settle (.taken p)) ∈ leaseRequests p := by simp [leaseRequests]
  refine ⟨fun s p id outcome rest sound h => ⟨exec_leaseRequest_of_hold (cmd p) h, fun hold h1 h2 h3 => ?_,
    fun hold defined unknown => ?_, fun l hl hold named => ?_⟩, fun s p payload rest h =>
    ⟨exec_leaseRequest_of_hold (cmd p) h, fun hold misfit => ?_⟩⟩ <;>
    rw [exec_leaseRequest_of_not_hold (cmd p) h hold]
  · exact congrArg _ (judgeSettle_of_none (parseSettle_of_undefined id h1 h2 h3))
  · obtain ⟨o, read⟩ := parseSettle_of_defined id defined
    exact congrArg _ (judgeSettle_of_unknown (s := restLease (.port p) rest s) read (findLease_none unknown))
  · have found := findLease_of_mem sound.ids hl
    rw [named] at found
    refine ⟨?_, ?_, ?_⟩ <;> rintro rfl
    · have read : parseSettle [id, 1] = some (id.toNat, .accept) := rfl
      exact congrArg _ (judgeSettle_accept (s := restLease (.port p) rest s) read found)
    · have read : parseSettle [id, 2] = some (id.toNat, .giveBack) := rfl
      exact congrArg _ (judgeSettle_path (s := restLease (.port p) rest s) (discarded := false) (by simp) read found)
    · have read : parseSettle [id, 3] = some (id.toNat, .discard) := rfl
      exact congrArg _ (judgeSettle_path (s := restLease (.port p) rest s) (discarded := true) (by simp) read found)
  · exact congrArg _ (judgeSettle_of_none (parseSettle_eq_none_of_length misfit))

/-- Settles O39: the checks in their order; the lease that carries the id is the one extended, the ids being
distinct. -/
theorem extendSetsTheDeadline : Obligations.ExtendSetsTheDeadline := by
  have cmd (p : Port) : (Req.extend, Instr.extend (.taken p)) ∈ leaseRequests p := by simp [leaseRequests]
  refine ⟨fun s p id rest sound h => ⟨exec_leaseRequest_of_hold (cmd p) h, fun hold unknown => ?_,
    fun l hl hold named => ?_⟩, fun s p payload rest h =>
    ⟨exec_leaseRequest_of_hold (cmd p) h, fun hold misfit => ?_⟩⟩ <;>
    rw [exec_leaseRequest_of_not_hold (cmd p) h hold]
  · have read : parseExtend [id] = some id.toNat := rfl
    exact congrArg _ (judgeExtend_of_unknown (s := restLease (.port p) rest s) read (findLease_none unknown))
  · have read : parseExtend [id] = some l.id := congrArg some named.symm
    have extended := judgeExtend_of_mem (s := restLease (.port p) rest s) sound.ids hl read
    simp only [named] at extended
    exact congrArg _ extended
  · exact congrArg _ (judgeExtend_of_none (parseExtend_eq_none_of_length misfit))

/-- Settles O40: the expiries of one port touch no list of another, so each port expires what stood before. -/
theorem timeBaseAdvanceExpiresLeases : Obligations.TimeBaseAdvanceExpiresLeases := by
  intro s high
  have advanced : exec .timeBaseAdvance s = .next (advance s) := by
    simp only [exec, execTimeBaseAdvance, high, Bool.false_eq_true, if_false]
  obtain ⟨time, lists⟩ := advance_leases s
  refine ⟨advance s, advanced, time, fun p l sound hl due => ?_, lists, advance_eq_expireOf s⟩
  simp only [exec, execLeaseExpiry, findLease_of_mem sound.ids hl, due, high, Bool.false_eq_true, not_false_eq_true,
    and_self, if_true]

/-- Settles O42: the cleanup behind a Take under way, and where none is. -/
theorem leaseSessionEndReturnsLeases : Obligations.LeaseSessionEndReturnsLeases := by
  intro s p rest h
  rw [exec_leaseSessionEnd h]
  exact ⟨fun under => congrArg _ (leaseCleanup_of_underWay (s := restLease (.port p) rest s) under),
    fun free => congrArg _ (leaseCleanup_of_free (s := restLease (.port p) rest s) free), rfl, fun _ => rfl⟩

/-- Settles O43: the clearing entry by entry, and the requests that the completion takes up. -/
theorem leaseClearingAndCompletion : Obligations.LeaseClearingAndCompletion := by
  refine ⟨fun s rest h => ?_, fun s rest h => ?_, fun _ _ _ => ⟨rfl, rfl⟩,
    fun u p payload l hold r c hc h => exec_leaseRequest_of_not_hold hc h hold⟩
  · simp only [exec, execLeaseClearingOrder, h]
    exact ⟨_, rfl, fun p => ⟨sel_replicate .., sel_map ..⟩, List.map_const' .., rfl⟩
  · simp only [exec, execLeaseResetCompletion, h]

end Sys2Proof.Machine
end

section
/-! SUPPORT. Where the redelivery path leads (05 R90 to R93), and what the lease manager does with the dead-letter
answers, the purge marks and the settings notices of the queue engine (04 R82, 05 R89, R96, R97). -/

namespace Sys2Proof.Machine

/-! ### The redelivery path, check by check -/

section
variable {s : State} {q : QueueId} {m : Message}

/-- A purge mark comes before every other check (05 R91). -/
theorem pathOf_of_purged (marked : m.purged = true) (discarded : Bool) : pathOf s q m discarded = .freed := by
  simp only [pathOf, disposition, raised, marked, if_true]

/-- A Discard passes by the redelivery limit (05 R92). -/
theorem pathOf_of_discarded (unmarked : m.purged = false) : pathOf s q m true = .deadLetter .discarded := by
  simp only [pathOf, disposition, raised, unmarked, Bool.false_eq_true, if_false, if_true]

theorem pathOf_of_below_limit (unmarked : m.purged = false) (below : m.deliveries + 1 < sel s.leases.limits q) :
    pathOf s q m false = .requeued := by
  simp only [pathOf, disposition, raised, unmarked, Bool.false_eq_true, if_false, below, if_true]

theorem pathOf_of_limit (unmarked : m.purged = false) (reached : sel s.leases.limits q ≤ m.deliveries + 1) :
    pathOf s q m false = .deadLetter .limit := by
  simp only [pathOf, disposition, raised, unmarked, Bool.false_eq_true, if_false, reached.not_gt]

end

/-! ### The messages of the queue engine -/

section
variable {s : State} {overtaken : Bool} {more : List Bool} {rest : List LeaseMsg}

/-- The answer to the oldest outstanding dead-letter request clears it; a message that moved needs nothing more
(05 R96). -/
theorem exec_deadLetterAnswer_moved {q : QueueId} (h : s.links.toLease.sent .queue = .deadAnswer (.moved q) :: rest)
    (oldest : s.leases.outstanding = overtaken :: more) :
    exec .deadLetterAnswer s =
      .next ((restLease .queue rest s).setLeases { s.leases with outstanding := more }) := by
  simp only [exec, execDeadLetterAnswer, h, oldest, List.tail_cons]

theorem exec_deadLetterAnswer_cleared (h : s.links.toLease.sent .queue = .deadAnswer .cleared :: rest)
    (oldest : s.leases.outstanding = overtaken :: more) :
    exec .deadLetterAnswer s =
      .next ((restLease .queue rest s).setLeases { s.leases with outstanding := more }) := by
  simp only [exec, execDeadLetterAnswer, h, oldest, List.tail_cons]

/-- On a drop, the cells of a request that no ResetPool overtook are released, and Dropped is posted (05 R97, R101). -/
theorem exec_deadLetterAnswer_dropped {q : QueueId} {cause : DeadCause} {m : Message}
    (h : s.links.toLease.sent .queue = .deadAnswer (.dropped q cause m) :: rest)
    (oldest : s.leases.outstanding = overtaken :: more) :
    exec .deadLetterAnswer s = .next (
      let s1 := (restLease .queue rest s).setLeases { s.leases with outstanding := more }
      postNote .lease m.producer (.dropped q cause)
        (if overtaken then s1 else sendPool .lease (.release m.producer m.chain) s1)) := by
  simp only [exec, execDeadLetterAnswer, h, oldest, List.tail_cons, List.head?_cons, Option.some.injEq]

end

/-- A purge-mark request that names no producer names the messages of all (04 R82). -/
theorem markLease_eq (q : QueueId) (producer : Option Port) (l : Lease) :
    markLease q producer l = if l.queue = q ∧ (∀ k, producer = some k → l.message.producer = k) then
      { l with message := { l.message with purged := true } } else l := by
  have named : (producer = none ∨ producer = some l.message.producer) ↔
      ∀ k, producer = some k → l.message.producer = k := by
    cases producer <;> simp [eq_comm]
  exact if_congr (and_congr_right' named) rfl rfl

/-- Lists replaced port by port: each port named has its own list replaced, and nothing else changes. -/
theorem foldl_setLeaseList (f : List Lease → List Lease) {ps : List Port} (distinct : ps.Nodup) (s : State) :
    ps.foldl (fun u p => setLeaseList p (f (sel u.leases.lists p)) u) s = s.setLeases { s.leases with
      lists := Vector.ofFn fun p => if p ∈ ps then f (sel s.leases.lists p) else sel s.leases.lists p } := by
  induction ps generalizing s with
  | nil =>
    have same : (Vector.ofFn fun p => sel s.leases.lists p) = s.leases.lists := sel_ext fun p => sel_ofFn _ p
    simp only [List.foldl_nil, List.not_mem_nil, if_false, same]
    rfl
  | cons k ps ih =>
    obtain ⟨hk, distinct⟩ := List.nodup_cons.1 distinct
    rw [List.foldl_cons, ih distinct]
    show s.setLeases _ = s.setLeases _
    refine congrArg (fun v => s.setLeases { s.leases with lists := v }) (sel_ext fun p => ?_)
    simp only [sel_ofFn, setLeaseList, State.setLeases_leases, sel_upd, List.mem_cons]
    by_cases same : k = p
    · subst same
      simp [hk]
    · simp [same, Ne.symm same]

/-- A purge-mark request marks messages in the lease list of every port, and does nothing else (04 R82). -/
theorem exec_purgeMarkRequest {s : State} {q : QueueId} {producer : Option Port} {rest : List LeaseMsg}
    (h : s.links.toLease.sent .queue = .purgeMark q producer :: rest) :
    exec .purgeMarkRequest s = .next ((restLease .queue rest s).setLeases { s.leases with
      lists := s.leases.lists.map (List.map (markLease q producer)) }) := by
  have every : (Vector.ofFn fun p => if p ∈ allPorts then (sel s.leases.lists p).map (markLease q producer)
      else sel s.leases.lists p) = s.leases.lists.map (List.map (markLease q producer)) :=
    sel_ext fun p => by simp only [sel_ofFn, mem_allPorts, if_true, sel_map]
  simp only [exec, execPurgeMarkRequest, h]
  rw [foldl_setLeaseList (List.map (markLease q producer)) (by decide), restLease_leases, every]

theorem exec_settingsNotice {s : State} {q : QueueId} {limit period : Nat} {rest : List LeaseMsg}
    (h : s.links.toLease.sent .queue = .settings q limit period :: rest) :
    exec .settingsNotice s = .next ((restLease .queue rest s).setLeases { s.leases with
      limits := upd s.leases.limits q limit, periods := upd s.leases.periods q period }) := by
  simp only [exec, execSettingsNotice, h]

end Sys2Proof.Machine
end

section
/-! The statements about redelivery and dead-letter routing. -/

namespace Sys2Proof.Machine

/-- Settles O37: a branch of the path for each check. -/
theorem redeliveryPath : Obligations.RedeliveryPath := by
  intro s q m discarded
  refine ⟨fun marked => ?_, ?_, ?_, ?_⟩
  · rw [redeliver, pathOf_of_purged marked]
    rfl
  · rintro unmarked rfl
    rw [redeliver, pathOf_of_discarded unmarked]
    rfl
  · rintro unmarked rfl below
    rw [redeliver, pathOf_of_below_limit unmarked below]
    rfl
  · rintro unmarked rfl reached
    rw [redeliver, pathOf_of_limit unmarked reached]
    rfl

/-- Settles O41: each message, and each dead-letter answer, by its own equation; the marks lease by lease. -/
theorem leaseManagerTakesQueueMessages : Obligations.LeaseManagerTakesQueueMessages := by
  refine ⟨fun s a overtaken more rest h oldest => ?_, fun s q producer rest h => ?_,
    fun s q limit period rest h => exec_settingsNotice h⟩
  · cases a with
    | moved q => exact exec_deadLetterAnswer_moved h oldest
    | cleared => exact exec_deadLetterAnswer_cleared h oldest
    | dropped q cause m => exact exec_deadLetterAnswer_dropped h oldest
  · refine ⟨_, exec_purgeMarkRequest h, rfl, fun p => (sel_map ..).trans ?_⟩
    exact List.map_congr_left fun l _ => markLease_eq q producer l

end Sys2Proof.Machine
end

section
/-! SUPPORT. The notification queues and the signal slots: the admission of a post (06 R110 to R112), what keeps the
queues and slots sound, the notification unit's operations one by one, then every command and every step. -/

namespace Sys2Proof.Machine

/-! ### Admission -/

theorem Note.merges_iff (n : Note) : n.merges = true ↔
    (∃ k, n = .arrival k) ∨ (∃ k, n = .signalWaiting k) ∨ n = .claimFree := by
  cases n <;> simp [Note.merges]

section
variable {q : NoteQueue} {n : Note}

/-- A disabled queue, a standing entry to merge with, and a standing marker each discard the post (06 R110). -/
theorem NoteQueue.admission_of_discarded
    (h : q.enabled = false ∨ (n.merges = true ∧ .note n ∈ q.entries) ∨ .overflow ∈ q.entries) :
    q.admission n = q := by
  rcases h with disabled | merging | marked
  · exact if_pos (by simp [disabled])
  · simp only [NoteQueue.admission, if_pos merging, ite_self]
  · simp only [NoteQueue.admission, if_pos marked, ite_self]

/-- A post that is not discarded leaves one more entry: itself, or the marker where 31 entries stand (06 R110, R112). -/
theorem NoteQueue.admission_of_admitted (enabled : q.enabled = true)
    (unmerged : ¬(n.merges = true ∧ .note n ∈ q.entries)) (unmarked : .overflow ∉ q.entries) :
    q.admission n = { q with entries := q.entries ++ [if q.entries.length < 31 then .note n else .overflow] } := by
  simp only [NoteQueue.admission, enabled, not_true_eq_false, if_neg unmerged, if_neg unmarked, if_false]
  split
  next room => rw [if_pos (show _ < 31 from room)]
  next full => rw [if_neg (show ¬_ < 31 from full)]

end

/-! ### What keeps a notification queue sound -/

/-- A disabled queue is empty (06 R118, R120). -/
theorem NotesSound.disabled_empty : NotesSound { enabled := false, entries := [] } :=
  ⟨fun _ => rfl, by simp, by simp, by simp, by simp⟩

/-- An Attach enables the queue and leaves its entries (06 R116). -/
theorem NotesSound.enable {q : NoteQueue} (hq : NotesSound q) : NotesSound { q with enabled := true } :=
  ⟨fun h => absurd h (by simp), hq.bounded, hq.marker, hq.ordinary, hq.merged⟩

/-- Entries leave at the head (06 R114). -/
theorem NotesSound.drop {q : NoteQueue} (hq : NotesSound q) (n : Nat) :
    NotesSound { q with entries := q.entries.drop n } where
  disabled h := by rw [hq.disabled h, List.drop_nil]
  bounded := (List.drop_sublist n _).length_le.trans hq.bounded
  marker l r h := hq.marker (q.entries.take n ++ l) r (by rw [List.append_assoc, ← h, List.take_append_drop])
  ordinary := ((List.drop_sublist n _).filter _).length_le.trans hq.ordinary
  merged m hm := ((List.drop_sublist n _).count_le _).trans (hq.merged m hm)

/-- An entry joins the tail of an enabled queue where no marker stands: an ordinary one where fewer than 31 stand, and a
merging one that does not stand yet (06 R110 to R112). -/
theorem NotesSound.join {q : NoteQueue} {e : Entry} (hq : NotesSound q) (enabled : q.enabled = true)
    (unmarked : .overflow ∉ q.entries) (room : e ≠ .overflow → q.entries.length < 31)
    (single : ∀ n : Note, n.merges = true → e = .note n → e ∉ q.entries) :
    NotesSound { q with entries := q.entries ++ [e] } := by
  have all_ordinary : q.entries.filter (· != .overflow) = q.entries :=
    List.filter_eq_self.2 fun x hx => bne_iff_ne.2 fun h => unmarked (h ▸ hx)
  have atMost : q.entries.length ≤ 31 := all_ordinary ▸ hq.ordinary
  refine ⟨fun off => ?_, ?_, fun l r h => ?_, ?_, fun n hn => ?_⟩
  · rw [enabled] at off
    cases off
  · rw [List.length_append, List.length_singleton]
    omega
  · rcases r.eq_nil_or_concat with rfl | ⟨r, x, rfl⟩
    · rfl
    · have before : q.entries = l ++ .overflow :: r :=
        (List.append_inj' (t₁ := [e]) (t₂ := [x]) (by simpa using h) rfl).1
      exact absurd (by simp [before]) unmarked
  · rw [List.filter_append, all_ordinary, List.length_append]
    by_cases marker : e = .overflow
    · simpa [marker] using atMost
    · simpa [marker] using room marker
  · rw [List.count_append]
    by_cases same : e = .note n
    · rw [← same, List.count_eq_zero_of_not_mem (single n hn same), List.count_singleton_self]
    · rw [List.count_singleton, if_neg (by simpa using same)]
      exact hq.merged n hn

/-- The admission of a post keeps its queue sound. -/
theorem NotesSound.admission {q : NoteQueue} (hq : NotesSound q) (n : Note) : NotesSound (q.admission n) := by
  by_cases discarded : q.enabled = false ∨ (n.merges = true ∧ .note n ∈ q.entries) ∨ .overflow ∈ q.entries
  · rwa [NoteQueue.admission_of_discarded discarded]
  · simp only [not_or, Bool.not_eq_false] at discarded
    obtain ⟨enabled, unmerged, unmarked⟩ := discarded
    rw [NoteQueue.admission_of_admitted enabled unmerged unmarked]
    refine hq.join enabled unmarked (fun ordinary => ?_) fun m hm same standing => ?_
    · by_contra full
      exact ordinary (if_neg full)
    · split at same
      · next room =>
        cases same
        exact unmerged ⟨hm, by simpa [room] using standing⟩
      · cases same

/-! ### What keeps the two invariants -/

/-- In `t`, the notification queues are sound wherever they are in `s`, and so are the signal slots. -/
structure NotificationsKept (s t : State) : Prop where
  notes   : (∀ p, NotesSound (sel s.notify.queues p)) → ∀ p, NotesSound (sel t.notify.queues p)
  signals : SignalsSound s.notify → SignalsSound t.notify

theorem NotificationsKept.refl (s : State) : NotificationsKept s s := ⟨id, id⟩

theorem NotificationsKept.trans {s t u : State} (h : NotificationsKept s t) (k : NotificationsKept t u) :
    NotificationsKept s u :=
  ⟨k.notes ∘ h.notes, k.signals ∘ h.signals⟩

theorem NotificationsKept.of_notify_eq {s t : State} (h : t.notify = s.notify) : NotificationsKept s t :=
  ⟨h ▸ id, h ▸ id⟩

/-- Nothing of the notification unit changes after the step. -/
theorem NotificationsKept.sent {s t u : State} (h : NotificationsKept s t) (e : u.notify = t.notify) :
    NotificationsKept s u :=
  h.trans (.of_notify_eq e)

/-- The queue of one port changes, and stays sound. -/
theorem NotificationsKept.of_queue {s t : State} {p : Port} {q : NoteQueue}
    (queues : t.notify.queues = upd s.notify.queues p q) (inbound : t.notify.inbound = s.notify.inbound)
    (sound : NotesSound (sel s.notify.queues p) → NotesSound q) : NotificationsKept s t := by
  refine ⟨fun h k => ?_, fun h k => ?_⟩
  · rw [queues, sel_upd]
    split
    next => exact sound (h p)
    next => exact h k
  · rw [signalSlot, inbound]
    exact h k

/-- The inbound slots of one port change, and its slot from itself stays empty (07 R121). -/
theorem NotificationsKept.of_slots {s t : State} {p : Port} {slots : Vector (Option Word) 4}
    (queues : t.notify.queues = s.notify.queues) (inbound : t.notify.inbound = upd s.notify.inbound p slots)
    (own : signalSlot s.notify p p = none → sel slots p = none) : NotificationsKept s t := by
  refine ⟨fun h => queues ▸ h, fun h k => ?_⟩
  rw [signalSlot, inbound, sel_upd]
  split
  next same => exact same ▸ own (h p)
  next => exact h k

/-! ### The notification unit's operations -/

theorem restNotify_notificationsKept (src : Source) (l : List NotifyMsg) (s : State) :
    NotificationsKept s (restNotify src l s) :=
  .of_notify_eq rfl

theorem reply_notificationsKept (p : Port) (st : Status) (payload : List Byte) (s : State) :
    NotificationsKept s (reply p st payload s) :=
  .of_notify_eq rfl

theorem admitNote_kept (p : Port) (n : Note) (s : State) : NotificationsKept s (admitNote p n s) :=
  .of_queue rfl rfl fun sound => sound.admission n

/-- A word is stored in a slot between two ports. -/
theorem setSignal_kept {sender target : Port} (distinct : target ≠ sender) (w : Option Word) (s : State) :
    NotificationsKept s (setSignal sender target w s) :=
  .of_slots rfl rfl fun own => (sel_upd_ne _ _ distinct.symm).trans own

theorem emptySlots_kept (target : Port) (s : State) : NotificationsKept s (emptySlots target s) :=
  .of_slots rfl rfl fun _ => sel_replicate ..

/-- The same note posted to the sender of each slot, as a ReadSignals and a session end do. -/
theorem foldl_admitNote_kept (n : Note) (full : List (Port × Word)) (s : State) :
    NotificationsKept s (full.foldl (fun u x => admitNote x.1 n u) s) :=
  foldl_step .refl .trans (fun u (x : Port × Word) => admitNote_kept x.1 n u) full s

theorem judgePoll_kept (p : Port) (payload : List Byte) (s : State) : NotificationsKept s (judgePoll p payload s) := by
  unfold judgePoll
  split
  · exact reply_notificationsKept ..
  · refine NotificationsKept.trans ?_ (reply_notificationsKept ..)
    exact .of_queue rfl rfl fun sound => sound.drop 4

theorem judgeSignal_kept (p : Port) (payload : List Byte) (s : State) :
    NotificationsKept s (judgeSignal p payload s) := by
  unfold judgeSignal
  split
  · exact reply_notificationsKept ..
  · split
    · exact reply_notificationsKept ..
    next distinct =>
      split
      · exact reply_notificationsKept ..
      · split
        · exact reply_notificationsKept ..
        · exact ((setSignal_kept distinct ..).trans (admitNote_kept ..)).trans (reply_notificationsKept ..)

theorem judgeReadSignals_kept (p : Port) (payload : List Byte) (s : State) :
    NotificationsKept s (judgeReadSignals p payload s) := by
  unfold judgeReadSignals
  split
  · exact reply_notificationsKept ..
  · exact ((emptySlots_kept p s).trans (foldl_admitNote_kept ..)).trans (reply_notificationsKept ..)

theorem judgeNotify_kept (p : Port) (r : Req) (payload : List Byte) (s : State) :
    NotificationsKept s (judgeNotify p r payload s) := by
  unfold judgeNotify
  split
  · exact judgePoll_kept ..
  · exact judgeSignal_kept ..
  · exact judgeReadSignals_kept ..
  · exact .refl s

theorem takeNotifyRequest_kept (p : Port) (r : Req) (s : State) : NotificationsKept s (takeNotifyRequest p r s) := by
  unfold takeNotifyRequest
  split
  · split
    · exact (restNotify_notificationsKept ..).trans (judgeNotify_kept ..)
    · exact .refl s
  · exact .refl s

/-! ### The commands -/

/-- The commands that can change the notification unit: those it carries out itself, and device reset; RESET_RELEASE
stands here because `scopeOf` leaves it to its meaning. -/
inductive ReachesNotify : Instr → Prop
  | poll (p : Port) : ReachesNotify (.poll (.taken p))
  | signal (p : Port) : ReachesNotify (.signal (.taken p))
  | readSignals (p : Port) : ReachesNotify (.readSignals (.taken p))
  | sessionEnd (p : Port) : ReachesNotify (.notifySessionEnd p)
  | attach (p : Port) : ReachesNotify (.notifyAttach p)
  | post (src : Block) : ReachesNotify (.post src)
  | deviceReset : ReachesNotify .deviceReset
  | resetRelease : ReachesNotify .resetRelease

/-- Every other command leaves the notification unit as it is. -/
theorem notify_eq_or_reachesNotify {c : Instr} {s t : State} (h : scopeOf c s t) :
    t.notify = s.notify ∨ ReachesNotify c := by
  unfold scopeOf at h
  split at h
  all_goals first
    | exact .inl h.2.2.1
    | exact .inl h.2.2.2.1
    | exact .inl h.2.2.2.2.1
    | exact .inr (by constructor)

theorem notifySessionEnd_kept {p : Port} {s t : State} (h : exec (.notifySessionEnd p) s = .next t) :
    NotificationsKept s t := by
  cases h
  repeat' split
  next a rest _ _ =>
    have emptied : NotificationsKept s ((restNotify (.port p) rest s).setNotify
        { s.notify with queues := upd s.notify.queues p { enabled := false, entries := [] } }) :=
      .of_queue rfl rfl fun _ => .disabled_empty
    exact ((emptied.trans (emptySlots_kept ..)).trans (foldl_admitNote_kept ..)).sent rfl
  · exact .refl s
  · exact .refl s

theorem notifyAttach_kept {p : Port} {s t : State} (h : exec (.notifyAttach p) s = .next t) :
    NotificationsKept s t := by
  cases h
  repeat' split
  · exact .of_queue rfl rfl .enable
  · exact .refl s
  · exact .refl s

theorem post_kept {src : Block} {s t : State} (h : exec (.post src) s = .next t) : NotificationsKept s t := by
  cases h
  repeat' split
  · exact (restNotify_notificationsKept ..).trans (admitNote_kept ..)
  · exact .refl s
  · exact .refl s

theorem exec_keeps_notifications {c : Instr} {s t : State} (h : exec c s = .next t) : NotificationsKept s t := by
  obtain ⟨u, hu, scope⟩ := exec_scope c s
  obtain rfl : u = t := by simpa [hu] using h
  rcases notify_eq_or_reachesNotify scope with same | reaches
  · exact .of_notify_eq same
  · cases reaches with
    | poll | signal | readSignals => cases h; exact takeNotifyRequest_kept ..
    | sessionEnd => exact notifySessionEnd_kept h
    | attach => exact notifyAttach_kept h
    | post => exact post_kept h
    | deviceReset => cases h; exact ⟨fun _ => reset_notesSound, fun _ => reset_signalsSound⟩
    | resetRelease => cases h; exact .of_notify_eq rfl

theorem step_keeps_notifications {s t : State} (h : step s = .next t) : NotificationsKept s t := by
  unfold step at h
  split at h
  next => cases h; exact .refl s
  next c rest _ =>
    have front : NotificationsKept s { s with pending := rest } := .of_notify_eq rfl
    exact front.trans (exec_keeps_notifications h)

end Sys2Proof.Machine
end

section
/-! SUPPORT. The evaluation of the high flag, case by case (06 R103, R105), and what the notification unit does with the
message it takes (06 R110 to R118, 07 R126). -/

namespace Sys2Proof.Machine

/-! ### The high flag -/

section
variable {s : State} {q : QueueId} {flag : Bool}

theorem evalFlag_of_nothing (h : (s.queue q).judgeFlag = (flag, .nothing)) :
    evalFlag q s = s.setQueue q { s.queue q with flag } := by
  simp only [evalFlag, h, FlagPost.note]

/-- An evaluation that leaves the flag as it is changes nothing. -/
theorem evalFlag_of_same (h : (s.queue q).judgeFlag = ((s.queue q).flag, .nothing)) : evalFlag q s = s :=
  (evalFlag_of_nothing h).trans (State.setQueue_queue s q)

theorem evalFlag_of_post {post : FlagPost} {n : Note} (h : (s.queue q).judgeFlag = (flag, post))
    (hn : post.note q = some n) :
    evalFlag q s = postAll .queue (s.queue q).producerPorts n (s.setQueue q { s.queue q with flag }) := by
  simp only [evalFlag, h, hn]

end

section
variable {r : Queue}

/-- Without a high watermark the flag is clear (06 R105). -/
theorem Queue.judgeFlag_of_no_watermark (h : r.high = 0) : r.judgeFlag = (false, .nothing) := if_pos h

/-- A clear flag is set where the occupancy has reached H. -/
theorem Queue.judgeFlag_of_clear (h : 0 < r.high) (clear : r.flag = false) :
    r.judgeFlag = if r.high ≤ r.occupancy then (true, .queueHigh) else (false, .nothing) := by
  simp only [Queue.judgeFlag, if_neg h.ne', clear, Bool.false_eq_true, if_false]

/-- A set flag is cleared where the occupancy has fallen to W. -/
theorem Queue.judgeFlag_of_set (h : 0 < r.high) (high : r.flag = true) :
    r.judgeFlag = if r.occupancy ≤ r.low then (false, .queueSpace) else (true, .nothing) := by
  simp only [Queue.judgeFlag, if_neg h.ne', high, if_true]

end

/-! ### ATN -/

theorem atn_iff (u : Notify) (p : Port) : atn u p = true ↔
    (sel u.queues p).entries ≠ [] ∨ ∃ a w, signalSlot u a p = some w := by
  simp [atn, signalSlot, mem_allPorts, Option.isSome_iff_exists]

/-! ### Posts -/

theorem exec_post {b : Block} {src : Source} {s : State} {p : Port} {n : Note} {rest : List NotifyMsg}
    (hb : (b, src) ∈ [(Block.config, Source.config), (.queue, .queue), (.lease, .lease)])
    (h : s.links.toNotify.sent src = .post p n :: rest) :
    exec (.post b) s = .next (admitNote p n (restNotify src rest s)) := by
  simp only [List.mem_cons, Prod.mk.injEq, List.not_mem_nil, or_false] at hb
  rcases hb with ⟨rfl, rfl⟩ | ⟨rfl, rfl⟩ | ⟨rfl, rfl⟩ <;> simp only [exec, execPost, blockSource, h]

section
variable {p : Port} {n : Note} {s : State}

theorem admitNote_of_discarded
    (h : (sel s.notify.queues p).admission n = sel s.notify.queues p) : admitNote p n s = s := by
  rw [admitNote, h, upd_sel]
  rfl

/-- An admitted post leaves one more entry, by which ATN is high (06 R110, R117). -/
theorem admitNote_of_admitted {e : Entry} (enabled : (sel s.notify.queues p).enabled = true)
    (unmerged : ¬(n.merges = true ∧ .note n ∈ (sel s.notify.queues p).entries))
    (unmarked : .overflow ∉ (sel s.notify.queues p).entries)
    (left : (if (sel s.notify.queues p).entries.length < 31 then .note n else .overflow) = e) :
    let q := sel s.notify.queues p
    let t := s.setNotify { s.notify with
      queues := upd s.notify.queues p { q with entries := q.entries ++ [e] } }
    admitNote p n s = t ∧ atn t.notify p = true := by
  refine ⟨by rw [admitNote, NoteQueue.admission_of_admitted enabled unmerged unmarked, left],
    (atn_iff _ _).2 (.inl ?_)⟩
  simp

/-- A post changes no slot, and no queue that is disabled, so it leaves ATN of that queue's port as it is. -/
theorem atn_admitNote_of_disabled (disabled : (sel s.notify.queues p).enabled = false) (k : Port) (n : Note) :
    sel (admitNote k n s).notify.queues p = sel s.notify.queues p ∧
      atn (admitNote k n s).notify p = atn s.notify p := by
  have same : sel (admitNote k n s).notify.queues p = sel s.notify.queues p := by
    rw [admitNote, State.setNotify_notify, sel_upd]
    split
    next own => rw [own, NoteQueue.admission_of_discarded (.inl disabled)]
    next => rfl
  refine ⟨same, ?_⟩
  unfold atn
  rw [same]
  rfl

end

theorem atn_foldl_admitNote_of_disabled {p : Port} (n : Note) (ks : List Port) {s : State}
    (disabled : (sel s.notify.queues p).enabled = false) :
    atn (ks.foldl (fun u k => admitNote k n u) s).notify p = atn s.notify p := by
  induction ks generalizing s with
  | nil => rfl
  | cons k ks ih =>
    obtain ⟨queue, line⟩ := atn_admitNote_of_disabled disabled k n
    exact (ih (queue ▸ disabled)).trans line

/-! ### Poll -/

theorem exec_poll_taken {s : State} {p : Port} {payload : List Byte} {rest : List NotifyMsg}
    (h : s.links.toNotify.sent (.port p) = .request p .poll payload :: rest) :
    exec (.poll (.taken p)) s = .next (judgePoll p payload (restNotify (.port p) rest s)) := by
  simp only [exec, execPoll, notifyRequest, takeNotifyRequest, h, and_self, if_true, judgeNotify]

/-! ### Session end -/

/-- The senders of the full inbound slots of a port, ascending. -/
theorem map_fst_fullSlots (u : Notify) (p : Port) :
    (fullSlots u p).map (·.1) = [0, 1, 2, 3].filter fun k : Port => signalSlot u k p ≠ none := by
  rw [fullSlots, allPorts]
  induction [(0 : Port), 1, 2, 3] with
  | nil => rfl
  | cons k ks ih =>
    cases hk : signalSlot u k p with
    | none => simpa [hk] using ih
    | some w => simpa [hk] using ih

theorem exec_notifySessionEnd {s : State} {p : Port} {rest : List NotifyMsg}
    (h : s.links.toNotify.sent (.port p) = .sessionEnd p :: rest) :
    exec (.notifySessionEnd p) s = .next (reportCleanup p .notify (
      ([0, 1, 2, 3].filter fun k : Port => signalSlot s.notify k p ≠ none).foldl
        (fun u k => admitNote k (.signalLost p) u)
        ((restNotify (.port p) rest s).setNotify
          { queues := upd s.notify.queues p { enabled := false, entries := [] }
            inbound := upd s.notify.inbound p (Vector.replicate 4 none) }))) := by
  simp only [exec, execNotifySessionEnd, h, if_true]
  rw [← map_fst_fullSlots, List.foldl_map]
  rfl

end Sys2Proof.Machine
end

section
/-! The statements about watermarks and notifications. -/

namespace Sys2Proof.Machine

/-- Settles O58: each operation of the notification unit keeps its queues and slots sound, and no other command reaches
them. -/
theorem stepKeepsTheNotifications : Obligations.StepKeepsTheNotifications := fun _ _ notes signals h =>
  have kept := step_keeps_notifications h
  ⟨kept.notes notes, kept.signals signals⟩

/-- Settles O22: the judgement of the flag in each case, then its post. -/
theorem flagEvaluation : Obligations.FlagEvaluation := by
  intro s q
  refine ⟨fun off => evalFlag_of_nothing (Queue.judgeFlag_of_no_watermark off), fun on clear reached => ?_,
    fun on high fallen => ?_, fun on clear below => ?_, fun on high above => ?_⟩
  · exact evalFlag_of_post ((Queue.judgeFlag_of_clear on clear).trans (if_pos reached)) rfl
  · exact evalFlag_of_post ((Queue.judgeFlag_of_set on high).trans (if_pos fallen)) rfl
  · refine evalFlag_of_same ((Queue.judgeFlag_of_clear on clear).trans ?_)
    rw [clear]
    exact if_neg below.not_ge
  · refine evalFlag_of_same ((Queue.judgeFlag_of_set on high).trans ?_)
    rw [high]
    exact if_neg above.not_ge

/-- Settles O44: the admission of the post, discarded or joined; the line and the posts by their definitions. -/
theorem postAdmission : Obligations.PostAdmission := by
  refine ⟨fun s b src p n rest hb h => ?_, atn_iff, fun _ _ _ _ _ => ⟨rfl, rfl, rfl⟩, fun _ _ _ => rfl⟩
  simp only [← Note.merges_iff]
  rw [exec_post hb h]
  refine ⟨rfl, fun discarded => ?_, fun enabled unmerged unmarked room => ?_, fun enabled unmerged unmarked full => ?_⟩
  · exact congrArg _ (admitNote_of_discarded (s := restNotify src rest s)
      (NoteQueue.admission_of_discarded discarded))
  · exact (admitNote_of_admitted (s := restNotify src rest s) enabled unmerged unmarked (if_pos room)).imp_left
      (congrArg _)
  · exact (admitNote_of_admitted (s := restNotify src rest s) enabled unmerged unmarked (if_neg full.not_gt)).imp_left
      (congrArg _)

/-- Settles O45: the entries are cut behind the fourth; each entry's bytes by the table. -/
theorem pollReturnsEntries : Obligations.PollReturnsEntries := by
  refine ⟨fun s p payload rest h => ?_, fun _ _ _ =>
    ⟨rfl, rfl, rfl, rfl, rfl, rfl, rfl, rfl, rfl, rfl, rfl, rfl, rfl⟩⟩
  rw [exec_poll_taken h]
  refine ⟨fun misfit => congrArg _ (if_pos misfit), ?_⟩
  rintro rfl
  exact ⟨_, _, (List.take_append_drop 4 _).symm, List.length_take, rfl⟩

/-- Settles O47: the senders are those of the full slots; a disabled queue takes no post, so ATN stays low. -/
theorem notifySessionEndEmptiesThePort : Obligations.NotifySessionEndEmptiesThePort := by
  refine fun s p rest h => ⟨exec_notifySessionEnd h, ?_⟩
  refine (atn_foldl_admitNote_of_disabled (.signalLost p) _ (by simp)).trans ?_
  simp [atn]

end Sys2Proof.Machine
end

section
/-! SUPPORT. What the notification unit does with a Signal and a ReadSignals (07 R122 to R125). -/

namespace Sys2Proof.Machine

/-! ### The payload of a Signal -/

/-- The payload of a Signal, as a master builds it (07 R122). -/
theorem parseSignal_bytes_eq_some_iff {t : Byte} {w v : Word} {k : Port} :
    parseSignal (t :: byte4 w) = some (k, v) ↔ k.val = t.toNat ∧ w = v := by
  simp [byte4, parseSignal, word4_byte4, portField_eq_some_iff]

theorem parseSignal_eq_none_of_length {payload : List Byte} (h : payload.length ≠ 5) : parseSignal payload = none := by
  unfold parseSignal
  split
  · exact absurd rfl h
  · rfl

/-! ### Signal -/

section
variable {p k : Port} {payload : List Byte} {w : Word}

/-- 07 R122: no word for a port, or a word for the sender itself. -/
theorem judgeSignal_of_range (h : ∀ k w, parseSignal payload = some (k, w) → k = p) (s : State) :
    judgeSignal p payload s = reply p .range [] s := by
  unfold judgeSignal
  split
  · rfl
  next k w parsed => exact if_pos (h k w parsed)

/-- 07 R123: the checks of a Signal to another port, in their order. -/
theorem judgeSignal_of_target (parsed : parseSignal payload = some (k, w)) (other : k ≠ p) (s : State) :
    judgeSignal p payload s =
      if (sel s.notify.queues k).enabled = false then reply p .peerAbsent [] s
      else if signalSlot s.notify p k ≠ none then reply p .slotBusy [] s
      else reply p .ok [] (admitNote k (.signalWaiting p) (setSignal p k (some w) s)) := by
  simp only [judgeSignal, parsed, if_neg other, Bool.not_eq_true, Option.isSome_iff_ne_none]

end

theorem exec_signal_taken {s : State} {p : Port} {payload : List Byte} {rest : List NotifyMsg}
    (h : s.links.toNotify.sent (.port p) = .request p .signal payload :: rest) :
    exec (.signal (.taken p)) s = .next (judgeSignal p payload (restNotify (.port p) rest s)) := by
  simp only [exec, execSignal, notifyRequest, takeNotifyRequest, h, and_self, if_true, judgeNotify]

/-! ### ReadSignals -/

theorem exec_readSignals_taken {s : State} {p : Port} {payload : List Byte} {rest : List NotifyMsg}
    (h : s.links.toNotify.sent (.port p) = .request p .readSignals payload :: rest) :
    exec (.readSignals (.taken p)) s = .next (judgeReadSignals p payload (restNotify (.port p) rest s)) := by
  simp only [exec, execReadSignals, notifyRequest, takeNotifyRequest, h, and_self, if_true, judgeNotify]

/-- 07 R124, R125: the answer from the full slots, and SignalRead to their senders one after the other. -/
theorem judgeReadSignals_nil (p : Port) (s : State) :
    judgeReadSignals p [] s = reply p .ok
      (byte1 (fullSlots s.notify p).length ++
        (fullSlots s.notify p).flatMap fun x => BitVec.ofNat 8 x.1.val :: byte4 x.2)
      (((fullSlots s.notify p).map (·.1)).foldl (fun u k => admitNote k (.signalRead p) u) (emptySlots p s)) := by
  rw [List.foldl_map]
  rfl

end Sys2Proof.Machine
end

section
/-! The statement about signals. -/

namespace Sys2Proof.Machine

/-- Settles O46: a Signal by its parser, then the checks in their order; a ReadSignals by its judgement. -/
theorem signalAndReadSignals : Obligations.SignalAndReadSignals := by
  refine ⟨fun s p t w rest h => ?_, fun s p payload rest misfit h => ?_, fun s p payload rest h => ?_⟩
  · rw [exec_signal_taken h]
    refine ⟨fun bad => congrArg _ (judgeSignal_of_range (fun k v parsed => ?_) _), fun k target other => ?_⟩
    · obtain ⟨target, -⟩ := parseSignal_bytes_eq_some_iff.1 parsed
      exact Fin.ext (by omega)
    · exact congrArg _ (judgeSignal_of_target (parseSignal_bytes_eq_some_iff.2 ⟨target, rfl⟩) other _)
  · rw [exec_signal_taken h]
    have unparsed := parseSignal_eq_none_of_length misfit
    exact congrArg _ (judgeSignal_of_range (fun k v parsed => by simp [unparsed] at parsed) _)
  · rw [exec_readSignals_taken h]
    refine ⟨fun misfit => congrArg _ (if_pos misfit), ?_⟩
    rintro rfl
    exact congrArg _ (judgeReadSignals_nil ..)

end Sys2Proof.Machine
end

section
/-! SUPPORT. What the port controllers do at the end of a frame, at a session end and at an Attach (08 R132 to R143):
each shared operation in the terms of the statements. -/

namespace Sys2Proof.Machine

/-! ### The timer after a good frame (08 R140) -/

section
variable {c : PortCtl}

theorem PortCtl.restarted_of_receiving (receiving : c.engine = .receiving) (attached : c.session = .attached) :
    c.restarted = timerFor c.setting :=
  if_pos ⟨attached, attaching_receiving receiving⟩

theorem PortCtl.restarted_of_not_attached (h : c.session ≠ .attached) : c.restarted = c.timer :=
  if_neg fun attached => h attached.1

end

/-- A port controller after a good frame in reception: the transaction is over, and the timer restarted. -/
def PortCtl.framed (c : PortCtl) : PortCtl := { c with link := .none, timer := c.restarted }

/-! ### Session ends and Attaches begun -/

section
variable {p : Port} {c : PortCtl} {s : State}

theorem sessionEnd_setPort (cause : EndCause) (attached : c.session = .attached) :
    sessionEnd p cause (s.setPort p c) = sessionEnded p cause c s := by
  rw [sessionEnd_eq cause (by simpa using attached)]
  simp [sessionEnded]

theorem sessionEnd_of_not_attached (cause : EndCause) (h : (s.port p).session ≠ .attached) :
    sessionEnd p cause s = s :=
  if_neg h

theorem carryAttach_setPort (p : Port) (tag : Byte) (c : PortCtl) (s : State) :
    carryAttach p tag (s.setPort p c) = attachBegun p tag c s := by
  simp [carryAttach, attachBegun, Req.code]

theorem startExec_setPort (p : Port) (code tag : Byte) (w : Work) (c : PortCtl) (s : State) :
    startExec p code tag w (s.setPort p c) =
      s.setPort p { c with engine := .executing { code, tag, discard := false, work := w } } := by
  simp [startExec]

theorem respond_setPort (p : Port) (code tag : Byte) (st : Status) (payload : List Byte) (c : PortCtl) (s : State) :
    respond p code tag st payload (s.setPort p c) = s.setPort p (c.built (atn s.notify p) code tag st payload) := by
  simp [respond_eq]

end

/-! ### The end of a good frame (08 R132) -/

section
variable {p : Port} {r : Req} {f : Frame} {s : State} {carry : State → State}

theorem retryMatch_eq_some_iff {code : Byte} {x : Cached} : retryMatch p code f s = some x ↔
    (s.port p).cache = some x ∧ f.retry = true ∧ x.code = code ∧ x.tag = f.tag := by
  unfold retryMatch
  split
  next y cached =>
    simp only [cached, Option.ite_none_right_eq_some, Option.some.injEq]
    constructor
    · rintro ⟨same, rfl⟩; exact ⟨rfl, same⟩
    · rintro ⟨rfl, same⟩; exact ⟨same, rfl⟩
  next empty => simp [empty]

theorem takeFrame_of_retry {x : Cached} (stands : frameStands p r.code f s = true)
    (matched : retryMatch p r.code f s = some x) :
    takeFrame p r f carry s = s.setPort p
      { (s.port p).ready (atn s.notify p) x with link := .none, timer := (s.port p).restarted } := by
  rw [takeFrame_eq carry stands, matched]

theorem takeFrame_of_noSession (stands : frameStands p r.code f s = true) (fresh : retryMatch p r.code f s = none)
    (ended : (s.port p).session ≠ .attached) (needed : sessionless r = false) :
    takeFrame p r f carry s = s.setPort p
      { (s.port p).built (atn s.notify p) r.code f.tag .noSession [] with link := .none } := by
  rw [takeFrame_eq carry stands, fresh, PortCtl.restarted_of_not_attached ended]
  exact if_pos ⟨ended, by simp [needed]⟩

theorem takeFrame_of_carry (stands : frameStands p r.code f s = true) (fresh : retryMatch p r.code f s = none)
    (carried : (s.port p).session = .attached ∨ sessionless r = true) :
    takeFrame p r f carry s = carry (s.setPort p (s.port p).framed) := by
  rw [takeFrame_eq carry stands, fresh]
  exact if_neg fun ⟨ended, needed⟩ => carried.elim ended needed

theorem sessionless_eq_false (notAttach : r ≠ .attach) (notPool : r ≠ .poolStatus) (notPort : r ≠ .portStatus) :
    sessionless r = false := by
  unfold sessionless
  split
  · exact absurd rfl notAttach
  · exact absurd rfl notPool
  · exact absurd rfl notPort
  · rfl

/-- A request that another block owns is handed to it. -/
theorem exec_frameCommand_of_owner {b : Block} (owner : ownerOf r = some b) (s : State) :
    exec (frameCommand r p f) s = .next (takeFrame p r f
      (fun u => handedTo b p r f.payload (startExec p r.code f.tag .owner u)) s) := by
  cases r <;> cases owner <;> rfl

/-- The end of its frame is the same for every request, up to what carries the request out. -/
theorem exec_frameCommand (r : Req) (p : Port) (f : Frame) :
    ∃ carry, ∀ s, exec (frameCommand r p f) s = .next (takeFrame p r f carry s) := by
  cases owner : ownerOf r with
  | some b => exact ⟨_, exec_frameCommand_of_owner owner⟩
  | none => cases r <;> cases owner <;> exact ⟨_, fun _ => rfl⟩

end

end Sys2Proof.Machine
end

section
/-! SUPPORT. The commands that a port controller carries out beside frames: the answers and reports it takes, its
keep-alive timer and PRST (08 R133 to R146, 10 R163). -/

namespace Sys2Proof.Machine

section
variable {p : Port} {s : State}

theorem makeReady_setPort (p : Port) (x : Cached) (c : PortCtl) (s : State) :
    makeReady p x (s.setPort p c) = s.setPort p (c.ready (atn s.notify p) x) := by
  simp [makeReady, PortCtl.ready]

theorem restartTimer_setPort (p : Port) (c : PortCtl) (s : State) :
    restartTimer p (s.setPort p c) = s.setPort p { c with timer := c.restarted } := by
  simp [restartTimer_eq]

/-! ### Owners' answers (08 R133) -/

/-- The engine takes the answer of its request: the response, or nothing where PRST has marked the request (08 R145). -/
def PortCtl.answered (c : PortCtl) (atn : Bool) (e : ExecReq) (st : Status) (payload : List Byte) : PortCtl :=
  if e.discard then { c with engine := .idle } else c.built atn e.code e.tag st payload

theorem takeAnswer_final (e : ExecReq) (st : Status) (payload : List Byte) :
    takeAnswer p e (.final st payload) s = s.setPort p ((s.port p).answered (atn s.notify p) e st payload) := by
  simp only [takeAnswer, PortCtl.answered, respond_eq]
  split <;> rfl

theorem takeAnswer_part {e : ExecReq} {needed : Nat} {parts : List StatusPart} (work : e.work = .status needed parts)
    (part : StatusPart) :
    takeAnswer p e (.part part) s = s.setPort p (
      if parts.length + 1 < needed then
        { s.port p with engine := .executing { e with work := .status needed (parts ++ [part]) } }
      else (s.port p).answered (atn s.notify p) e (statusAnswer (parts ++ [part])).1
        (statusAnswer (parts ++ [part])).2) := by
  simp only [takeAnswer, work, PortCtl.answered, respond_eq, List.length_append, List.length_singleton]
  split
  · rfl
  · split <;> rfl

theorem takeAnswer_part_of_ne {e : ExecReq} (h : ∀ needed parts, e.work ≠ .status needed parts) (part : StatusPart) :
    takeAnswer p e (.part part) s = s := by
  obtain ⟨code, tag, discard, work⟩ := e
  cases work with
  | status needed parts => exact absurd rfl (h needed parts)
  | owner | attachNotify | attachReports | heldAttach | detach => rfl

theorem PortCtl.answered_statusAnswer (c : PortCtl) (line : Bool) (e : ExecReq) (parts : List StatusPart) :
    c.answered line e (statusAnswer parts).1 (statusAnswer parts).2 =
      if e.discard then { c with engine := .idle }
      else if .misfit ∈ parts then c.built line e.code e.tag .range []
      else c.built line e.code e.tag .ok (reportBytes parts) := by
  simp only [answered, statusAnswer]
  split
  · rfl
  · split <;> rfl

theorem exec_ownerAnswer {e : ExecReq} {x : Answer} {rest : List Answer}
    (waiting : sel s.links.answers p = x :: rest) (executing : (s.port p).engine = .executing e) :
    exec (.ownerAnswer p) s =
      .next (takeAnswer p e x (s.setLinks { s.links with answers := upd s.links.answers p rest })) := by
  simp only [exec, execOwnerAnswer, waiting, executing]

/-! ### The end of an Attach and of a session (08 R134, R143, R144) -/

theorem finishAttach_of_deferred {e : ExecReq} {charge : Nat} (attached : (s.port p).session = .attached)
    (deferred : (s.port p).deferredReset = true) :
    finishAttach p e charge s =
      sessionEnded p .portReset { s.port p with engine := .idle, deferredReset := false } s := by
  rw [finishAttach, if_pos deferred]
  exact sessionEnd_setPort _ attached

theorem finishAttach_of_not_deferred {e : ExecReq} {charge : Nat} (h : (s.port p).deferredReset = false) :
    finishAttach p e charge s = s.setPort p
      { (s.port p).built (atn s.notify p) e.code e.tag .ok
          ([BitVec.ofNat 8 p.val, (s.port p).epoch] ++ byte2 charge ++ [(s.port p).lastEnd.code]) with
        timer := timerFor (s.port p).setting } := by
  simp only [finishAttach, h, Bool.false_eq_true, if_false, respond_eq, State.port_setPort_same,
    State.setPort_setPort]

theorem reachDown_of_heldAttach {c : PortCtl} {e : ExecReq} (executing : c.engine = .executing e)
    (work : e.work = .heldAttach) :
    reachDown p (s.setPort p c) = attachBegun p e.tag { c with session := .down } s := by
  simp only [reachDown, State.port_setPort_same, State.setPort_setPort, executing, work, carryAttach_setPort]

theorem reachDown_of_detach {c : PortCtl} {e : ExecReq} (executing : c.engine = .executing e)
    (work : e.work = .detach) :
    reachDown p (s.setPort p c) =
      s.setPort p (PortCtl.answered { c with session := .down } (atn s.notify p) e .ok []) := by
  simp only [reachDown, State.port_setPort_same, State.setPort_setPort, executing, work, PortCtl.answered,
    respond_setPort]
  split <;> rfl

theorem reachDown_of_other {c : PortCtl}
    (h : ∀ e, c.engine = .executing e → e.work ≠ .heldAttach ∧ e.work ≠ .detach) :
    reachDown p (s.setPort p c) = s.setPort p { c with session := .down } := by
  simp only [reachDown, State.port_setPort_same, State.setPort_setPort]
  split
  next e executing =>
    obtain ⟨unheld, undetached⟩ := h e executing
    split
    next work => exact absurd work unheld
    next work => exact absurd work undetached
    next => rfl
  next => rfl

/-- The report of a block is no longer outstanding (08 R143). -/
def PortCtl.reported (c : PortCtl) (b : Block) : PortCtl := { c with outstanding := c.outstanding.erase b }

/-- 08 R143: the block leaves the outstanding reports, and with the last one the port is Down. -/
theorem exec_cleanupReport {b : Block} (h : b ∈ sel s.links.cleanups p) :
    exec (.cleanupReport p b) s = .next (
      let u := (s.setLinks { s.links with
        cleanups := upd s.links.cleanups p ((sel s.links.cleanups p).erase b) }).setPort p ((s.port p).reported b)
      if (s.port p).session = .closing ∧ (s.port p).outstanding.erase b = [] then reachDown p u else u) := by
  simp only [exec, execCleanupReport, if_pos h]
  rfl

/-! ### Keep-alive (08 R139, R140) -/

theorem tick_of_stopped (h : (s.port p).timer = none) : tick p s = s := by
  simp only [tick, h]

theorem tick_of_last {n : Nat} (h : (s.port p).timer = some n) (last : n ≤ 1)
    (attached : (s.port p).session = .attached) : tick p s = sessionEnded p .timeout (s.port p) s := by
  simp only [tick, h, if_pos last]
  exact sessionEnd_setPort _ attached

theorem tick_of_running {n : Nat} (h : (s.port p).timer = some n) (running : 1 < n) :
    tick p s = s.setPort p { s.port p with timer := some (n - 1) } := by
  simp only [tick, h, if_neg running.not_ge]

theorem exec_keepAliveSetting {x : NewSetting} {rest : List NewSetting}
    (h : sel s.links.settings p = x :: rest) :
    exec (.keepAliveSetting p) s = .next (
      let c : PortCtl := { s.port p with setting := x.setting }
      sendConfig (.port p) (.settingTaken x.requester x.setting)
        ((s.setLinks { s.links with settings := upd s.links.settings p rest }).setPort p
          { c with timer := c.restarted })) := by
  simp only [exec, execKeepAliveSetting, h, restartTimer_setPort]

/-! ### PRST (08 R144, R145) -/

/-- What the assertion of PRST leaves of a controller, but for the session end it may bring. -/
def PortCtl.prstAsserted (c : PortCtl) : PortCtl :=
  { c with engine := c.engine.afterPrst, cache := none, overrun := false, prst := true, link := .none }

theorem exec_prstAssert (h : (s.port p).prst = false) :
    exec (.prstAssert p) s = .next (
      if (s.port p).session = .attached then
        if (s.port p).attaching = true then s.setPort p { (s.port p).prstAsserted with deferredReset := true }
        else sessionEnded p .portReset (s.port p).prstAsserted s
      else s.setPort p (s.port p).prstAsserted) := by
  simp only [exec, execPrstAssert, h, Bool.false_eq_true, if_false]
  by_cases attached : (s.port p).session = .attached
  · cases attaching : (s.port p).attaching with
    | true => simp [attached, PortCtl.prstAsserted]
    | false =>
      simp only [if_pos attached, Bool.false_and, Bool.or_false, Bool.false_eq_true, if_false]
      exact congrArg _ (sessionEnd_setPort _ attached)
  · simp only [beq_eq_false_iff_ne.2 attached, Bool.and_false, Bool.or_false, if_neg attached]
    rw [sessionEnd_of_not_attached _ (by rwa [State.port_setPort_same]), ite_self]
    rfl

end

end Sys2Proof.Machine
end

section
/-! SUPPORT. What keeps a port controller sound, change by change (08 R130 to R147, 10 R160 to R167). -/

namespace Sys2Proof.Machine

/-- The work of a request that asks nothing of the session: it is neither a part of an Attach nor a Detach. -/
def Work.Free : Work → Prop
  | .owner | .status _ _ => True
  | .attachNotify | .attachReports _ _ | .heldAttach | .detach => False

theorem PortCtl.attaching_iff (c : PortCtl) : c.attaching = true ↔ ∃ e, c.engine = .executing e ∧
    (e.work = .attachNotify ∨ ∃ left charge, e.work = .attachReports left charge) := by
  unfold attaching
  split
  next h => simp [h]
  next h => simp [h]
  next notify reports =>
    refine iff_of_false (by simp) ?_
    rintro ⟨⟨code, tag, discard, work⟩, h, rfl | ⟨left, charge, rfl⟩⟩
    · exact notify _ _ _ h
    · exact reports _ _ _ _ _ h

section
variable {c d : PortCtl}

/-- A port is Down or Attached exactly where no cleanup report is outstanding. -/
theorem PortSound.outstanding_eq_nil (h : PortSound c) : c.outstanding = [] ↔ c.session ≠ .closing := by
  rw [ne_eq, h.closing, not_not]

theorem PortSound.timer_eq_none (h : PortSound c) (ended : c.session ≠ .attached ∨ c.attaching = true) :
    c.timer = none := by
  cases running : c.timer with
  | none => rfl
  | some n =>
    obtain ⟨attached, idle, -⟩ := h.timer n running
    rcases ended with ended | attaching
    · exact absurd attached ended
    · rw [idle] at attaching; cases attaching

theorem PortSound.link_ne_request (h : PortSound c) (engine : c.engine ≠ .receiving) (code : Byte) :
    c.link ≠ .request code :=
  fun link => engine (h.receiving.2 ⟨code, link⟩)

/-- A timer that a start or restart gives is within its setting (08 R139). -/
theorem timerFor_eq_some {setting n : Nat} (h : timerFor setting = some n) : 1 ≤ n ∧ n ≤ setting := by
  simp only [timerFor, Option.ite_none_left_eq_some, Option.some.injEq] at h
  omega

theorem PortSound.restarted (h : PortSound c) {n : Nat} (running : c.restarted = some n) :
    c.session = .attached ∧ c.attaching = false ∧ 1 ≤ n ∧ n ≤ c.setting := by
  unfold PortCtl.restarted at running
  split at running
  next start => exact ⟨start.1, start.2, timerFor_eq_some running⟩
  next => exact h.timer n running

theorem PortSound.restarted_eq_none (h : PortSound c) (ended : c.session ≠ .attached) : c.restarted = none :=
  (PortCtl.restarted_of_not_attached ended).trans (h.timer_eq_none (.inl ended))

/-- The session stays, and the request in Executing either asks nothing of it or does the work it did before. -/
theorem PortSound.of_work (h : PortSound c) (session : d.session = c.session)
    (outstanding : d.outstanding = c.outstanding)
    (work : ∀ e, d.engine = .executing e → e.work.Free ∨ ∃ e', c.engine = .executing e' ∧ e'.work = e.work)
    (timer : ∀ n, d.timer = some n → c.session = .attached ∧ c.attaching = false ∧ 1 ≤ n ∧ n ≤ d.setting)
    (receiving : d.engine = .receiving ↔ ∃ code, d.link = .request code) : PortSound d := by
  have attaching : d.attaching = true → c.attaching = true := fun h => by
    obtain ⟨e, executing, attach⟩ := d.attaching_iff.1 h
    rcases work e executing with free | ⟨e', before, same⟩
    · rcases attach with attach | ⟨left, charge, attach⟩ <;> rw [attach] at free <;> cases free
    · exact c.attaching_iff.2 ⟨e', before, same ▸ attach⟩
  refine ⟨fun n running => ?_, fun h' => ?_, ?_, fun e executing waits => ?_, receiving⟩
  · obtain ⟨attached, idle, bounds⟩ := timer n running
    exact ⟨session.trans attached, Bool.eq_false_iff.2 fun h => Bool.eq_false_iff.1 idle (attaching h), bounds⟩
  · exact session.trans (h.attaching (attaching h'))
  · rw [session, outstanding]
    exact h.closing
  · rcases work e executing with free | ⟨e', before, same⟩
    · rcases waits with waits | waits <;> rw [waits] at free <;> cases free
    · exact session.trans (h.waits e' before (same ▸ waits))

/-- A session end: whatever waits in Executing may be a held Attach or a Detach (08 R142). -/
theorem PortSound.of_ended (session : d.session = .closing) (outstanding : d.outstanding ≠ [])
    (timer : d.timer = none) (attaching : d.attaching = false) (receiving : d.engine = .receiving ↔ ∃ code, d.link = .request code) :
    PortSound d where
  timer n running := by rw [timer] at running; cases running
  attaching h := by rw [attaching] at h; cases h
  closing := iff_of_true session outstanding
  waits _ _ _ := session
  receiving := receiving

/-- A port without a session, in which nothing waits for Down. -/
theorem PortSound.of_down (session : d.session = .down) (outstanding : d.outstanding = []) (timer : d.timer = none)
    (work : ∀ e, d.engine = .executing e → e.work.Free)
    (receiving : d.engine = .receiving ↔ ∃ code, d.link = .request code) : PortSound d where
  timer n running := by rw [timer] at running; cases running
  attaching h := by
    obtain ⟨e, executing, attach⟩ := d.attaching_iff.1 h
    have free := work e executing
    rcases attach with attach | ⟨left, charge, attach⟩ <;> rw [attach] at free <;> cases free
  closing := iff_of_false (by simp [session]) (by simp [outstanding])
  waits e executing waits := by
    have free := work e executing
    rcases waits with waits | waits <;> rw [waits] at free <;> cases free
  receiving := receiving

/-- An Attach is being carried out, its first step done (08 R134 step 1). -/
theorem PortSound.of_attachBegun {tag : Byte} (session : d.session = .attached) (outstanding : d.outstanding = [])
    (timer : d.timer = none)
    (engine : d.engine = .executing { code := 0x01, tag, discard := false, work := .attachNotify })
    (link : ∀ code, d.link ≠ .request code) : PortSound d where
  timer n running := by rw [timer] at running; cases running
  attaching _ := session
  closing := iff_of_false (by simp [session]) (by simp [outstanding])
  waits e executing waits := by
    rw [engine] at executing
    cases executing
    rcases waits with waits | waits <;> cases waits
  receiving := iff_of_false (by simp [engine]) fun ⟨code, h⟩ => link code h

/-- The timer of an Attached port starts, where no Attach is being carried out (08 R134 step 3, R140). -/
theorem PortSound.start (h : PortSound c) (attached : c.session = .attached) (idle : c.attaching = false) :
    PortSound { c with timer := timerFor c.setting } :=
  ⟨fun _ running => ⟨attached, idle, timerFor_eq_some running⟩, h.attaching, h.closing, h.waits, h.receiving⟩

/-- A new setting restarts or stops the timer (08 R140). -/
theorem PortSound.set (h : PortSound c) (setting : Nat) :
    PortSound { c with setting, timer := { c with setting }.restarted } := by
  refine ⟨fun n running => ?_, h.attaching, h.closing, h.waits, h.receiving⟩
  by_cases start : c.session = .attached ∧ c.attaching = false
  · exact ⟨start.1, start.2, timerFor_eq_some ((if_pos start).symm.trans running)⟩
  · have unchanged : c.timer = some n := (if_neg start).symm.trans running
    obtain ⟨attached, idle, -⟩ := h.timer n unchanged
    exact absurd ⟨attached, idle⟩ start

/-- A response becomes ready, newly built or from the cache, and the link leaves the frame (08 R132, 10 R166). -/
theorem PortSound.of_responseReady (h : PortSound c) {r : Response} (session : d.session = c.session)
    (outstanding : d.outstanding = c.outstanding) (engine : d.engine = .responseReady r)
    (timer : ∀ n, d.timer = some n → c.session = .attached ∧ c.attaching = false ∧ 1 ≤ n ∧ n ≤ d.setting)
    (link : ∀ code, d.link ≠ .request code) : PortSound d :=
  h.of_work session outstanding (fun e executing => by rw [engine] at executing; cases executing) timer
    (iff_of_false (by simp [engine]) fun ⟨code, h⟩ => link code h)

/-- The link takes another place in a transaction, or leaves it, outside the reception of a frame (10 R160 to R167). -/
theorem PortSound.of_link (h : PortSound c) (session : d.session = c.session)
    (outstanding : d.outstanding = c.outstanding) (engine : d.engine = c.engine)
    (timer : ∀ n, d.timer = some n → c.session = .attached ∧ c.attaching = false ∧ 1 ≤ n ∧ n ≤ d.setting)
    (before : ∀ code, c.link ≠ .request code) (after : ∀ code, d.link ≠ .request code) : PortSound d :=
  h.of_work session outstanding (fun e executing => .inr ⟨e, engine ▸ executing, rfl⟩) timer
    (iff_of_false (fun receiving => have ⟨code, link⟩ := h.receiving.1 (engine ▸ receiving); before code link)
      fun ⟨code, link⟩ => after code link)

end

end Sys2Proof.Machine
end

section
/-! SUPPORT. The end of a frame keeps its port controller sound (08 R132 to R138). -/

namespace Sys2Proof.Machine

/-- In `t`, the controller of `p` is sound if it is in `s`. -/
def ControllerKept (p : Port) (s t : State) : Prop := PortSound (s.port p) → PortSound (t.port p)

theorem ControllerKept.refl (p : Port) (s : State) : ControllerKept p s s := id

theorem ControllerKept.of_port_eq {p : Port} {s t : State} (h : t.port p = s.port p) : ControllerKept p s t :=
  fun sound => h ▸ sound

theorem ControllerKept.of_setPort {p : Port} {c : PortCtl} {s u : State}
    (h : PortSound (s.port p) → PortSound c) : ControllerKept p s (u.setPort p c) :=
  fun sound => (u.port_setPort_same p c).symm ▸ h sound

theorem sessionEnded_port (p : Port) (cause : EndCause) (c : PortCtl) (s : State) :
    (sessionEnded p cause c s).port p = { c with
      session := .closing, lastEnd := cause, timer := none, outstanding := [.config, .pool, .queue, .lease, .notify] } :=
  sel_upd_same ..

theorem attachBegun_port (p : Port) (tag : Byte) (c : PortCtl) (s : State) :
    (attachBegun p tag c s).port p = { c with
      session := .attached, epoch := c.epoch + 1
      engine := .executing { code := 0x01, tag, discard := false, work := .attachNotify } } :=
  sel_upd_same ..

/-- A session end of a controller that carries out no Attach. -/
theorem ControllerKept.of_sessionEnded {p : Port} {cause : EndCause} {c : PortCtl} {s u : State}
    (attaching : PortSound (s.port p) → c.attaching = false)
    (receiving : PortSound (s.port p) → (c.engine = .receiving ↔ ∃ code, c.link = .request code)) :
    ControllerKept p s (sessionEnded p cause c u) := fun sound => by
  rw [sessionEnded_port]
  exact .of_ended rfl (by simp) rfl (attaching sound) (receiving sound)

/-! ### The end of a good frame (08 R132) -/

section
variable {p : Port} {r : Req} {f : Frame} {s : State} {carry : State → State}

/-- A frame answered from the cache or for want of a session leaves a sound controller, so what carries it out
decides. -/
theorem takeFrame_kept
    (carried : (s.port p).engine = .receiving → (s.port p).session = .attached ∨ sessionless r = true →
      ControllerKept p s (carry (s.setPort p (s.port p).framed))) :
    ControllerKept p s (takeFrame p r f carry s) := by
  by_cases stands : frameStands p r.code f s = true
  · obtain ⟨-, receiving, -⟩ := frameStands_iff.1 stands
    cases matched : retryMatch p r.code f s with
    | some x =>
      rw [takeFrame_of_retry stands matched]
      exact .of_setPort fun sound =>
        sound.of_responseReady rfl rfl rfl (fun _ => sound.restarted) fun _ => Link.noConfusion
    | none =>
      by_cases served : (s.port p).session = .attached ∨ sessionless r = true
      · rw [takeFrame_of_carry stands matched served]
        exact carried receiving served
      · obtain ⟨ended, needed⟩ := not_or.1 served
        rw [takeFrame_of_noSession stands matched ended (Bool.eq_false_iff.2 needed)]
        exact .of_setPort fun sound => sound.of_responseReady rfl rfl rfl sound.timer fun _ => Link.noConfusion
  · rw [takeFrame, if_neg stands]
    exact .refl p s

/-- A request that starts work which asks nothing of the session. -/
theorem takeFrame_kept_of_free {w : Work} (free : w.Free)
    (started : ∀ u, (carry u).port p = (startExec p r.code f.tag w u).port p) :
    ControllerKept p s (takeFrame p r f carry s) :=
  takeFrame_kept fun _ _ sound => by
    rw [started, startExec_setPort, State.port_setPort_same]
    exact sound.of_work rfl rfl (fun e executing => .inl (by cases executing; exact free)) (fun _ => sound.restarted)
      (by simp [PortCtl.framed])

/-- A request that is answered at the end of its frame. -/
theorem respond_kept (code tag : Byte) (st : Status) (payload : List Byte) :
    ControllerKept p s (respond p code tag st payload
      (s.setPort p (s.port p).framed)) := by
  rw [respond_setPort]
  exact .of_setPort fun sound =>
    sound.of_responseReady rfl rfl rfl (fun _ => sound.restarted) fun _ => Link.noConfusion

/-- A request that ends the session and waits for Down (08 R135, R137). -/
theorem sessionEnd_startExec_kept {w : Work} (cause : EndCause) (code tag : Byte)
    (attached : (s.port p).session = .attached) (waits : w = .heldAttach ∨ w = .detach) :
    ControllerKept p s (sessionEnd p cause (startExec p code tag w
      (s.setPort p (s.port p).framed))) := by
  rw [startExec_setPort, sessionEnd_setPort cause (by exact attached)]
  refine .of_sessionEnded (fun _ => ?_) (fun _ => by simp [PortCtl.framed])
  rcases waits with rfl | rfl <;> rfl

theorem handPool_kept (p : Port) (r : Req) (f : Frame) (s : State) : ControllerKept p s (handPool p r f s) :=
  takeFrame_kept_of_free (w := .owner) trivial fun _ => rfl

theorem handLease_kept (p : Port) (r : Req) (f : Frame) (s : State) : ControllerKept p s (handLease p r f s) :=
  takeFrame_kept_of_free (w := .owner) trivial fun _ => rfl

theorem handNotify_kept (p : Port) (r : Req) (f : Frame) (s : State) : ControllerKept p s (handNotify p r f s) :=
  takeFrame_kept_of_free (w := .owner) trivial fun _ => rfl

theorem handConfig_kept (p : Port) (r : Req) (f : Frame) (s : State) : ControllerKept p s (handConfig p r f s) :=
  takeFrame_kept_of_free (w := .owner) trivial fun _ => rfl

theorem handQueue_kept (p : Port) (r : Req) (f : Frame) (s : State) : ControllerKept p s (handQueue p r f s) :=
  takeFrame_kept_of_free (w := .owner) trivial fun _ => rfl

theorem attachFrame_kept (p : Port) (f : Frame) (s : State) : ControllerKept p s (attachFrame p f s) :=
  takeFrame_kept fun _ _ => by
    split
    · exact respond_kept _ _ _ _
    · rw [State.port_setPort_same]
      split
      next down =>
        have ended : (s.port p).session ≠ .attached := fun attached => Session.noConfusion (attached.symm.trans down)
        have unclosed : (s.port p).session ≠ .closing := fun closing => Session.noConfusion (closing.symm.trans down)
        rw [carryAttach_setPort]
        intro sound
        rw [attachBegun_port]
        exact .of_attachBegun rfl (sound.outstanding_eq_nil.2 unclosed) (sound.restarted_eq_none ended) rfl
          fun _ => Link.noConfusion
      next attached => exact sessionEnd_startExec_kept _ _ _ attached (.inl rfl)
      next closing =>
        have ended : (s.port p).session ≠ .attached := fun attached =>
          Session.noConfusion (attached.symm.trans closing)
        rw [startExec_setPort]
        exact .of_setPort fun sound =>
          .of_ended closing (sound.closing.1 closing) (sound.restarted_eq_none ended) rfl (by simp [PortCtl.framed])

theorem detach_kept {t : State} (h : exec (.detach p f) s = .next t) : ControllerKept p s t := by
  cases h
  refine takeFrame_kept fun _ served => ?_
  have attached : (s.port p).session = .attached := served.resolve_right Bool.noConfusion
  split
  · exact respond_kept _ _ _ _
  · exact sessionEnd_startExec_kept _ _ _ attached (.inr rfl)

theorem nop_kept {t : State} (h : exec (.nop p f) s = .next t) : ControllerKept p s t := by
  cases h
  exact takeFrame_kept fun _ _ => respond_kept _ _ _ _

theorem poolStatus_kept {t : State} (h : exec (.poolStatus p f) s = .next t) : ControllerKept p s t := by
  cases h
  exact takeFrame_kept_of_free (w := .status 2 []) trivial fun _ => rfl

theorem portStatus_kept {t : State} (h : exec (.portStatus p f) s = .next t) : ControllerKept p s t := by
  cases h
  cases named : parsePort f.payload with
  | none => exact takeFrame_kept fun _ _ => respond_kept _ _ _ _
  | some n => exact takeFrame_kept_of_free (w := .status 5 []) trivial fun _ => rfl

end

end Sys2Proof.Machine
end

section
/-! SUPPORT. The other commands of a port controller, then every command and every step, keep the controllers sound
(08 R130 to R147, 10 R160 to R167). -/

namespace Sys2Proof.Machine

section
variable {p : Port} {s t : State}

/-! ### The link (10 R160 to R167) -/

theorem badFrame_kept {bytes : List Byte} (h : exec (.badFrame p bytes) s = .next t) : ControllerKept p s t := by
  cases h
  split
  · split
    · rw [respondBad, makeReady_setPort]
      exact .of_setPort fun sound => sound.of_responseReady rfl rfl rfl sound.timer fun _ => Link.noConfusion
    · exact .refl p s
  · exact .refl p s

theorem unknownRequest_kept {code : Byte} {f : Frame} (h : exec (.unknownRequest p code f) s = .next t) :
    ControllerKept p s t := by
  cases h
  rw [restartTimer_setPort]
  split
  · split
    · rw [makeReady_setPort]
      exact .of_setPort fun sound =>
        sound.of_responseReady rfl rfl rfl (fun _ => sound.restarted) fun _ => Link.noConfusion
    · exact respond_kept _ _ _ _
  · exact .refl p s

theorem overrunFrame_kept {bytes : List Byte} (h : exec (.overrunFrame p bytes) s = .next t) :
    ControllerKept p s t := by
  cases h
  simp only [restartTimer_setPort]
  split
  next overrun =>
    split
    · exact .of_setPort fun sound =>
        sound.of_link rfl rfl rfl sound.timer (by simp [overrun]) fun _ => Link.noConfusion
    · exact .of_setPort fun sound =>
        sound.of_link rfl rfl rfl (fun _ => sound.restarted) (by simp [overrun]) fun _ => Link.noConfusion
  next => exact .refl p s

theorem assertSel_kept (p : Port) (s : State) : ControllerKept p s (assertSel p s) := by
  simp only [assertSel]
  split
  · exact .refl p s
  next unopened =>
    have outside : (s.port p).link = .none := not_not.1 unopened
    split
    · exact .of_setPort fun sound => sound.of_link rfl rfl rfl sound.timer (by simp [outside]) (by simp [outside])
    · exact .of_setPort fun sound =>
        sound.of_link rfl rfl rfl sound.timer (by simp [outside]) fun _ => Link.noConfusion

theorem firstByte_kept (p : Port) (code : Byte) (s : State) : ControllerKept p s (firstByte p code s) := by
  simp only [firstByte]
  split
  · exact .refl p s
  · split
    next selected _ =>
      exact .of_setPort fun sound =>
        sound.of_link rfl rfl rfl sound.timer (by simp [selected]) fun _ => Link.noConfusion
    next =>
      exact .of_setPort fun sound =>
        sound.of_work rfl rfl (fun _ => ReqEngine.noConfusion) sound.timer (iff_of_true rfl ⟨code, rfl⟩)
    next => exact .refl p s

theorem endRead_kept (p : Port) (n : Nat) (s : State) : ControllerKept p s (endRead p n s) := by
  simp only [endRead]
  split
  next selected =>
    exact .of_setPort fun sound => sound.of_link rfl rfl rfl sound.timer (by simp [selected]) fun _ => Link.noConfusion
  next reading ready =>
    refine .of_setPort fun sound => ?_
    split
    · exact sound.of_work rfl rfl (fun _ => ReqEngine.noConfusion) sound.timer (by simp)
    · exact sound.of_link rfl rfl rfl sound.timer (by simp [reading]) fun _ => Link.noConfusion
  next reading _ =>
    exact .of_setPort fun sound => sound.of_link rfl rfl rfl sound.timer (by simp [reading]) fun _ => Link.noConfusion
  next => exact .refl p s

theorem responseRead_kept {r : ReadStep} (h : exec (.responseRead p r) s = .next t) : ControllerKept p s t := by
  cases h
  cases r with
  | select => exact assertSel_kept p s
  | firstByte =>
    dsimp only
    split
    next selected =>
      split
      · exact .refl p s
      · exact .of_setPort fun sound =>
          sound.of_link rfl rfl rfl sound.timer (by simp [selected]) fun _ => Link.noConfusion
    next => exact .refl p s
  | deselect n => exact endRead_kept p n s

theorem requestFirstByte_kept {f : FirstStep} (h : exec (.requestFirstByte p f) s = .next t) :
    ControllerKept p s t := by
  cases h
  cases f with
  | select => exact assertSel_kept p s
  | byte code => exact firstByte_kept p code s

/-! ### Owners' answers (08 R133, R145) -/

theorem PortSound.answered {c : PortCtl} {e : ExecReq} (h : PortSound c) (executing : c.engine = .executing e)
    (line : Bool) (st : Status) (payload : List Byte) : PortSound (c.answered line e st payload) := by
  have idle : c.engine ≠ .receiving := by simp [executing]
  unfold PortCtl.answered
  split
  · exact h.of_work rfl rfl (fun _ => ReqEngine.noConfusion) h.timer
      (iff_of_false ReqEngine.noConfusion fun ⟨code, link⟩ => h.link_ne_request idle code link)
  · exact h.of_responseReady rfl rfl rfl h.timer (h.link_ne_request idle)

theorem takeAnswer_kept {e : ExecReq} (executing : (s.port p).engine = .executing e) (x : Answer) :
    ControllerKept p s (takeAnswer p e x s) := by
  have idle : (s.port p).engine ≠ .receiving := by simp [executing]
  cases x with
  | final st payload =>
    rw [takeAnswer_final]
    exact .of_setPort fun sound => sound.answered executing _ _ _
  | part part =>
    by_cases status : ∃ needed parts, e.work = .status needed parts
    · obtain ⟨needed, parts, work⟩ := status
      rw [takeAnswer_part work]
      refine .of_setPort fun sound => ?_
      split
      · exact sound.of_work rfl rfl (fun e' same => .inl (by cases same; exact trivial)) sound.timer
          (iff_of_false ReqEngine.noConfusion fun ⟨code, link⟩ => sound.link_ne_request idle code link)
      · exact sound.answered executing _ _ _
    · rw [takeAnswer_part_of_ne fun needed parts work => status ⟨needed, parts, work⟩]
      exact .refl p s

theorem ownerAnswer_kept (h : exec (.ownerAnswer p) s = .next t) : ControllerKept p s t := by
  cases h
  split
  next x rest _ =>
    split
    next e executing =>
      exact takeAnswer_kept (s := s.setLinks { s.links with answers := upd s.links.answers p rest }) executing x
    next => exact .of_port_eq rfl
  next => exact .refl p s

/-! ### Session ends, Attaches and their reports (08 R134, R143) -/

theorem PortCtl.work_free {c : PortCtl} {e : ExecReq} (executing : c.engine = .executing e)
    (attaching : c.attaching = false) (unheld : e.work ≠ .heldAttach) (undetached : e.work ≠ .detach) :
    e.work.Free := by
  have unattached := mt c.attaching_iff.2 (Bool.eq_false_iff.1 attaching)
  cases work : e.work with
  | owner | status => trivial
  | attachNotify => exact absurd ⟨e, executing, .inl work⟩ unattached
  | attachReports left charge => exact absurd ⟨e, executing, .inr ⟨left, charge, work⟩⟩ unattached
  | heldAttach => exact absurd work unheld
  | detach => exact absurd work undetached

/-- A port reaches Down with what waited for it: a held Attach, a Detach, or neither (08 R143). -/
theorem reachDown_sound {c : PortCtl} (outstanding : c.outstanding = []) (timer : c.timer = none)
    (attaching : c.attaching = false) (receiving : c.engine = .receiving ↔ ∃ code, c.link = .request code) :
    PortSound ((reachDown p (s.setPort p c)).port p) := by
  have link {e : ExecReq} (executing : c.engine = .executing e) (code : Byte) : c.link ≠ .request code :=
    fun link => by
      rw [receiving.2 ⟨code, link⟩] at executing
      cases executing
  by_cases held : ∃ e, c.engine = .executing e ∧ e.work = .heldAttach
  · obtain ⟨e, executing, work⟩ := held
    rw [reachDown_of_heldAttach executing work, attachBegun_port]
    exact .of_attachBegun rfl outstanding timer rfl (link executing)
  by_cases detached : ∃ e, c.engine = .executing e ∧ e.work = .detach
  · obtain ⟨e, executing, work⟩ := detached
    rw [reachDown_of_detach executing work, State.port_setPort_same, PortCtl.answered]
    split <;>
      exact .of_down rfl outstanding timer (fun _ => ReqEngine.noConfusion)
        (iff_of_false ReqEngine.noConfusion fun ⟨code, h⟩ => link executing code h)
  · have other (e : ExecReq) (executing : c.engine = .executing e) : e.work ≠ .heldAttach ∧ e.work ≠ .detach :=
      ⟨fun work => held ⟨e, executing, work⟩, fun work => detached ⟨e, executing, work⟩⟩
    rw [reachDown_of_other other, State.port_setPort_same]
    exact .of_down rfl outstanding timer (fun e executing =>
      PortCtl.work_free executing attaching (other e executing).1 (other e executing).2) receiving

theorem cleanupReport_kept {b : Block} (h : exec (.cleanupReport p b) s = .next t) : ControllerKept p s t := by
  by_cases reported : b ∈ sel s.links.cleanups p
  · rw [exec_cleanupReport reported] at h
    cases h
    dsimp only
    split
    next last =>
      obtain ⟨closing, last⟩ := last
      have ended : (s.port p).session ≠ .attached := by simp [closing]
      exact fun sound => reachDown_sound last (sound.timer_eq_none (.inl ended))
        (Bool.eq_false_iff.2 fun attaching => ended (sound.attaching attaching)) sound.receiving
    next more =>
      refine .of_setPort fun sound => ⟨sound.timer, sound.attaching,
        ⟨fun closing left => more ⟨closing, left⟩, fun left => ?_⟩, sound.waits, sound.receiving⟩
      exact sound.closing.2 fun empty => left (by simp [PortCtl.reported, empty])
  · simp only [exec, execCleanupReport, if_neg reported] at h
    cases h
    exact .refl p s

/-- An Attach goes on being carried out (08 R134 step 2). -/
theorem PortSound.of_attaching {c d : PortCtl} (h : PortSound c) (attaching : c.attaching = true) {e : ExecReq}
    {left : List Block} {charge : Nat} (engine : d.engine = .executing e) (work : e.work = .attachReports left charge)
    (session : d.session = c.session) (outstanding : d.outstanding = c.outstanding) (timer : d.timer = c.timer)
    (link : d.link = c.link) : PortSound d where
  timer n running := by
    rw [timer, h.timer_eq_none (.inr attaching)] at running
    cases running
  attaching _ := session.trans (h.attaching attaching)
  closing := by
    rw [session, outstanding]
    exact h.closing
  waits e' executing waits := by
    rw [engine] at executing
    cases executing
    rcases waits with waits | waits <;> rw [work] at waits <;> cases waits
  receiving := by
    obtain ⟨e', executing, -⟩ := c.attaching_iff.1 attaching
    rw [link]
    exact iff_of_false (by simp [engine]) fun ⟨code, h'⟩ => h.link_ne_request (by simp [executing]) code h'

theorem notifyEnabledReport_kept (h : exec (.notifyEnabledReport p) s = .next t) : ControllerKept p s t := by
  cases h
  split
  · split
    next e executing =>
      split
      next work =>
        refine ControllerKept.of_setPort (s := s) (p := p) fun sound => ?_
        exact sound.of_attaching ((s.port p).attaching_iff.2 ⟨e, executing, .inl work⟩) rfl rfl rfl rfl rfl rfl
      next => exact .of_port_eq rfl
    next => exact .of_port_eq rfl
  · exact .refl p s

theorem finishAttach_kept {e : ExecReq} {left : List Block} {charge : Nat}
    (executing : (s.port p).engine = .executing e) (work : e.work = .attachReports left charge) (n : Nat) :
    ControllerKept p s (finishAttach p e n s) := by
  intro sound
  have attaching := (s.port p).attaching_iff.2 ⟨e, executing, .inr ⟨left, charge, work⟩⟩
  have attached := sound.attaching attaching
  have link := sound.link_ne_request (by simp [executing])
  cases deferred : (s.port p).deferredReset with
  | true =>
    rw [finishAttach_of_deferred attached deferred, sessionEnded_port]
    exact .of_ended rfl (by simp) rfl rfl (iff_of_false ReqEngine.noConfusion fun ⟨code, h⟩ => link code h)
  | false =>
    rw [finishAttach_of_not_deferred deferred, State.port_setPort_same]
    have built := sound.of_responseReady (d := (s.port p).built (atn s.notify p) e.code e.tag .ok
      ([BitVec.ofNat 8 p.val, (s.port p).epoch] ++ byte2 n ++ [(s.port p).lastEnd.code])) rfl rfl rfl sound.timer link
    exact built.start attached rfl

theorem attachReport_kept {b : Block} (h : exec (.attachReport p b) s = .next t) : ControllerKept p s t := by
  cases h
  split
  next x _ =>
    split
    next e executing =>
      split
      next left charge work =>
        dsimp only
        split
        · exact finishAttach_kept (s := s.setLinks { s.links with
            attachReports := upd s.links.attachReports p ((sel s.links.attachReports p).erase x) }) executing work _
        · exact .of_setPort fun sound => sound.of_attaching
            ((s.port p).attaching_iff.2 ⟨e, executing, .inr ⟨left, charge, work⟩⟩) rfl rfl rfl rfl rfl rfl
      next => exact .of_port_eq rfl
    next => exact .of_port_eq rfl
  next => exact .refl p s

/-! ### Keep-alive and PRST (08 R139, R140, R144) -/

theorem tick_kept (p : Port) (s : State) : ControllerKept p s (tick p s) := by
  intro sound
  cases running : (s.port p).timer with
  | none => rwa [tick_of_stopped running]
  | some n =>
    obtain ⟨attached, idle, low, high⟩ := sound.timer n running
    by_cases last : n ≤ 1
    · rw [tick_of_last running last attached]
      exact ControllerKept.of_sessionEnded (fun _ => idle) (fun sound => sound.receiving) sound
    · rw [tick_of_running running (not_le.1 last), State.port_setPort_same]
      refine sound.of_work rfl rfl (fun e executing => .inr ⟨e, executing, rfl⟩) (fun k same => ?_) sound.receiving
      obtain rfl : n - 1 = k := Option.some.inj same
      exact ⟨attached, idle, by omega, by show n - 1 ≤ (s.port p).setting; omega⟩

theorem keepAliveTick_kept (h : exec (.keepAliveTick p) s = .next t) : ControllerKept p s t := by
  cases h
  exact tick_kept p s

theorem keepAliveTimeout_kept (h : exec (.keepAliveTimeout p) s = .next t) : ControllerKept p s t := by
  cases h
  split
  · exact tick_kept p s
  · exact .refl p s

theorem keepAliveSetting_kept (h : exec (.keepAliveSetting p) s = .next t) : ControllerKept p s t := by
  cases waiting : sel s.links.settings p with
  | nil =>
    simp only [exec, execKeepAliveSetting, waiting] at h
    cases h
    exact .refl p s
  | cons x rest =>
    rw [exec_keepAliveSetting waiting] at h
    cases h
    intro sound
    rw [port_sendConfig, State.port_setPort_same]
    exact sound.set x.setting

theorem ReqEngine.afterPrst_eq_executing {x : ReqEngine} {e : ExecReq} (h : x.afterPrst = .executing e) :
    ∃ e', x = .executing e' ∧ e'.work = e.work := by
  unfold afterPrst at h
  split at h
  next e' =>
    split at h
    · cases h
    · cases h; exact ⟨e', rfl, rfl⟩
  next => cases h

theorem ReqEngine.afterPrst_ne_receiving (x : ReqEngine) : x.afterPrst ≠ .receiving := by
  unfold afterPrst
  repeat' split
  all_goals exact ReqEngine.noConfusion

theorem PortSound.prstAsserted {c : PortCtl} (h : PortSound c) : PortSound c.prstAsserted :=
  h.of_work rfl rfl (fun _ executing => .inr (ReqEngine.afterPrst_eq_executing executing)) h.timer
    (iff_of_false c.engine.afterPrst_ne_receiving fun ⟨_, link⟩ => by cases link)

theorem prstAssert_kept (h : exec (.prstAssert p) s = .next t) : ControllerKept p s t := by
  cases line : (s.port p).prst with
  | true =>
    simp only [exec, execPrstAssert, line, if_true] at h
    cases h
    exact .refl p s
  | false =>
    rw [exec_prstAssert line] at h
    cases h
    split
    · split
      · exact .of_setPort fun sound =>
          have asserted := sound.prstAsserted
          ⟨asserted.timer, asserted.attaching, asserted.closing, asserted.waits, asserted.receiving⟩
      next idle =>
        refine .of_sessionEnded (fun _ => Bool.eq_false_iff.2 fun attaching => ?_) fun sound =>
          sound.prstAsserted.receiving
        obtain ⟨e, executing, work⟩ := (PortCtl.attaching_iff _).1 attaching
        obtain ⟨e', before, same⟩ := ReqEngine.afterPrst_eq_executing executing
        exact idle ((s.port p).attaching_iff.2 ⟨e', before, same ▸ work⟩)
    · exact .of_setPort PortSound.prstAsserted

theorem prstRelease_kept (h : exec (.prstRelease p) s = .next t) : ControllerKept p s t := by
  cases h
  split
  · exact .of_setPort fun sound => ⟨sound.timer, sound.attaching, sound.closing, sound.waits, sound.receiving⟩
  · exact .refl p s

/-! ### Every command, every step -/

/-- A command that reaches a port controller keeps it sound. -/
theorem exec_keeps_controller {c : Instr} (reaches : controllerOf c = some p) (h : exec c s = .next t) :
    ControllerKept p s t := by
  cases c with
  | attach => cases reaches; cases h; exact attachFrame_kept p _ s
  | detach => cases reaches; exact detach_kept h
  | nop => cases reaches; exact nop_kept h
  | portStatus => cases reaches; exact portStatus_kept h
  | poolStatus => cases reaches; exact poolStatus_kept h
  | put x | putOpen x | putData x | putCommit x | putAbort x =>
    cases x <;> cases reaches
    cases h
    exact handPool_kept p _ _ s
  | take x | read x | settle x | extend x =>
    cases x <;> cases reaches
    cases h
    exact handLease_kept p _ _ s
  | poll x | signal x | readSignals x =>
    cases x <;> cases reaches
    cases h
    exact handNotify_kept p _ _ s
  | claim x | release x | setKeepAlive x | resetPool x =>
    cases x <;> cases reaches
    cases h
    exact handConfig_kept p _ _ s
  | defineQueue x | setQueue x | closeQueue x | purgeQueue x | setBudget x =>
    cases x <;> cases reaches
    cases h
    exact handConfig_kept p _ _ s
  | queueStatus x =>
    cases x <;> cases reaches
    cases h
    exact handQueue_kept p _ _ s
  | badFrame => cases reaches; exact badFrame_kept h
  | unknownRequest => cases reaches; exact unknownRequest_kept h
  | overrunFrame => cases reaches; exact overrunFrame_kept h
  | responseRead => cases reaches; exact responseRead_kept h
  | requestFirstByte => cases reaches; exact requestFirstByte_kept h
  | ownerAnswer => cases reaches; exact ownerAnswer_kept h
  | cleanupReport => cases reaches; exact cleanupReport_kept h
  | notifyEnabledReport => cases reaches; exact notifyEnabledReport_kept h
  | attachReport => cases reaches; exact attachReport_kept h
  | keepAliveSetting => cases reaches; exact keepAliveSetting_kept h
  | prstAssert => cases reaches; exact prstAssert_kept h
  | prstRelease => cases reaches; exact prstRelease_kept h
  | keepAliveTimeout => cases reaches; exact keepAliveTimeout_kept h
  | keepAliveTick => cases reaches; exact keepAliveTick_kept h
  | _ => cases reaches

end

/-- A command leaves all port controllers as they are, or it reaches one alone, DEVICE_RESET and RESET_RELEASE apart. -/
theorem ports_eq_or_controllerOf {c : Instr} {s t : State} (h : scopeOf c s t) :
    t.ports = s.ports ∨ (∃ p, controllerOf c = some p ∧ t.ports = upd s.ports p (t.port p)) ∨
      c = .deviceReset ∨ c = .resetRelease := by
  unfold scopeOf at h
  split at h
  all_goals first
    | exact .inr (.inl ⟨_, rfl, h.2.2.2.2.2.2.1⟩)
    | exact .inl h.2.2.2.2.1
    | exact .inl h.2.2.2.2.2.1
    | exact .inl h.2.2.2.2.2.2.1
    | exact .inr (.inr (.inl rfl))
    | exact .inr (.inr (.inr rfl))

theorem exec_keeps_ports {c : Instr} {s t : State} (h : exec c s = .next t) (sound : ∀ p, PortSound (s.port p)) :
    ∀ p, PortSound (t.port p) := by
  obtain ⟨u, hu, scope⟩ := exec_scope c s
  obtain rfl : u = t := by simpa [hu] using h
  intro k
  rcases ports_eq_or_controllerOf scope with same | ⟨p, reaches, only⟩ | rfl | rfl
  · rw [State.port, same]
    exact sound k
  · rw [State.port, only, sel_upd]
    split
    · exact exec_keeps_controller reaches h (sound p)
    · exact sound k
  · cases h
    have blank : (afterReset true s).port k = { PortCtl.reset with prst := (s.port k).prst } := sel_ofFn ..
    rw [blank]
    exact ⟨PortCtl.reset_sound.timer, PortCtl.reset_sound.attaching, PortCtl.reset_sound.closing,
      PortCtl.reset_sound.waits, PortCtl.reset_sound.receiving⟩
  · cases h
    exact sound k

theorem step_keeps_ports {s t : State} (h : step s = .next t) (sound : ∀ p, PortSound (s.port p)) :
    ∀ p, PortSound (t.port p) := by
  unfold step at h
  split at h
  next => cases h; exact sound
  next c rest _ => exact exec_keeps_ports (s := { s with pending := rest }) h sound

end Sys2Proof.Machine
end

section
/-! SUPPORT. The payload of a status report, whose parts come in any order (11 R173, R175), the reports of an Attach as
they are taken, and what the four blocks do with its announcement (08 R134, 06 R116, 04 R69). -/

namespace Sys2Proof.Machine

/-! ### Status reports -/

theorem perm_eq_of_length_le_one {α : Type} {l m : List α} (h : l.Perm m) (single : m.length ≤ 1) : l = m := by
  rcases m with _ | ⟨x, _ | ⟨y, m⟩⟩
  · exact h.eq_nil
  · exact List.perm_singleton.1 h
  · simp at single

/-- Parts of different ranks, of which one at most ends the report, make the same report in whatever order they came. -/
theorem reportBytes_of_perm {parts ordered : List StatusPart} (h : parts.Perm ordered)
    (ranks : (ordered.map StatusPart.rank).Nodup) (tails : (ordered.flatMap StatusPart.tail).length ≤ 1) :
    reportBytes parts = reportBytes ordered := by
  have same_rank (k : Nat) : parts.filter (·.rank = k) = ordered.filter (·.rank = k) := by
    refine perm_eq_of_length_le_one (h.filter _) ?_
    rw [← List.countP_eq_length_filter]
    have counted := List.nodup_iff_count_le_one.1 ranks k
    rwa [List.count, List.countP_map] at counted
  simp only [reportBytes, same_rank, perm_eq_of_length_le_one (h.flatMap_right _) tails]

theorem reportBytes_poolStatus {parts : List StatusPart} {free shared inUse : Nat} {resetting : Bool} {t : Word}
    (h : parts.Perm [.poolCounts free shared inUse resetting, .timeBase t]) :
    reportBytes parts =
      byte2 free ++ byte2 shared ++ byte2 inUse ++ byte4 t ++ [if resetting = true then 1 else 0] := by
  rw [reportBytes_of_perm h (by simp [StatusPart.rank]) (by simp [StatusPart.tail])]
  simp [reportBytes, List.range_succ, StatusPart.rank, StatusPart.bytes, StatusPart.tail, bit]

theorem reportBytes_portStatus {parts : List StatusPart} {session : Session} {epoch : BitVec 8} {cause : EndCause}
    {setting left charge reserve limit notes : Nat} {slot : Slot} {leases : List (Nat × QueueId × Nat)} {claim : Bool}
    (h : parts.Perm [.controller session epoch cause setting left, .poolPort charge reserve limit slot,
      .leases leases, .notes notes, .claim claim]) :
    reportBytes parts =
      StatusPart.bytes (.controller session epoch cause setting left) ++
      StatusPart.bytes (.poolPort charge reserve limit slot) ++ StatusPart.bytes (.leases leases) ++
      StatusPart.bytes (.notes notes) ++ StatusPart.bytes (.claim claim) := by
  rw [reportBytes_of_perm h (by simp [StatusPart.rank]) (by simp [StatusPart.tail])]
  simp [reportBytes, List.range_succ, StatusPart.rank, StatusPart.tail]

/-! ### The reports of an Attach -/

section
variable {b : Block} {x : AttachReport} {before after : List AttachReport}

/-- The oldest report of a block is taken, and only that. -/
theorem attachReports_find (block : x.block = b) (others : ∀ y ∈ before, y.block ≠ b) :
    (before ++ x :: after).find? (·.block = b) = some x := by
  rw [List.find?_append, List.find?_eq_none.2 (by simpa using others), Option.none_or,
    List.find?_cons_of_pos (by simpa using block)]

theorem attachReports_erase (block : x.block = b) (others : ∀ y ∈ before, y.block ≠ b) :
    (before ++ x :: after).erase x = before ++ after := by
  rw [List.erase_append_right _ fun mem => others x mem block, List.erase_cons_head]

theorem exec_attachReport {p : Port} {s : State} {e : ExecReq} {left : List Block} {charge : Nat}
    (taken : (sel s.links.attachReports p).find? (·.block = b) = some x)
    (executing : (s.port p).engine = .executing e) (work : e.work = .attachReports left charge) :
    exec (.attachReport p b) s = .next (
      let s1 := s.setLinks { s.links with
        attachReports := upd s.links.attachReports p ((sel s.links.attachReports p).erase x) }
      let charge' := if b = .pool then x.charge else charge
      if left.erase b = [] then finishAttach p e charge' s1
      else s1.setPort p { s.port p with
        engine := .executing { e with work := .attachReports (left.erase b) charge' } }) := by
  simp only [exec, execAttachReport, taken, executing, work]

end

/-! ### The announcement of an Attach at the queue engine (06 R116) -/

theorem foldl_attachArrival (p : Port) (qs : List QueueId) {s u : State} (same : ∀ q, u.queue q = s.queue q) :
    qs.foldl (attachArrival p) u =
      (qs.filter fun q => (s.queue q).state ≠ .unused ∧ (s.queue q).consumer = p ∧ (s.queue q).list ≠ []).foldl
        (fun u q => postNote .queue p (.arrival q) u) u := by
  induction qs generalizing u with
  | nil => rfl
  | cons q qs ih =>
    by_cases arrives : (s.queue q).state ≠ .unused ∧ (s.queue q).consumer = p ∧ (s.queue q).list ≠ []
    · have posted : attachArrival p u q = postNote .queue p (.arrival q) u :=
        if_pos (by simpa [Queue.live, same] using arrives)
      rw [List.foldl_cons, posted, ih (by simpa using same), List.filter_cons_of_pos (by simpa using arrives),
        List.foldl_cons]
    · have passed : attachArrival p u q = u := if_neg (by simpa [Queue.live, same] using arrives)
      rw [List.foldl_cons, passed, ih same, List.filter_cons_of_neg (by simpa using arrives)]

end Sys2Proof.Machine
end

section
/-! The statements about port sessions. -/

namespace Sys2Proof.Machine

/-- Settles O59: each command of a port controller keeps it sound, and no other command but DEVICE_RESET reaches it. -/
theorem stepKeepsThePorts : Obligations.StepKeepsThePorts := fun _ _ sound h => step_keeps_ports h sound

/-- Settles O1: the end of a frame is carried out with its owner's work; the rest says what the operations are. -/
theorem ownerRequestHandedOver : Obligations.OwnerRequestHandedOver := by
  refine ⟨fun s p r f b owner stands attached fresh => ?_, fun r code h => ?_,
    fun _ _ => ⟨fun _ => rfl, fun _ => rfl, fun _ => rfl, fun _ => rfl, fun _ => rfl⟩,
    fun _ i src other x => ⟨i.sent_push_same src x, fun h => i.sent_push_ne x h.symm⟩,
    fun _ _ => ⟨fun _ => rfl, fun _ => rfl, fun _ => rfl, fun _ => rfl, fun _ => rfl⟩,
    fun _ i src other l => ⟨i.sent_put_same src l, fun h => i.sent_put_ne l h.symm⟩,
    fun _ _ v k j x => ⟨sel_upd_same v k x, fun h => sel_upd_ne v x h.symm⟩,
    fun _ _ _ => ⟨fun _ => rfl, rfl, fun _ => rfl, rfl, fun _ => rfl, fun _ => rfl, fun _ => rfl, fun _ => rfl,
      fun _ => rfl, fun _ => rfl⟩⟩
  · obtain ⟨-, receiving, -⟩ := frameStands_iff.1 stands
    rw [exec_frameCommand_of_owner owner, takeFrame_of_carry stands fresh (.inl attached), startExec_setPort,
      PortCtl.framed, PortCtl.restarted_of_receiving receiving attached]
  · cases r <;> simpa [Req.code, eq_comm] using h

/-- Settles O2: the frame is answered before anything carries it out, whatever its request. -/
theorem frameAnsweredWithoutExecution : Obligations.FrameAnsweredWithoutExecution := by
  refine ⟨fun s p r f stands => ?_, fun s p code f => ⟨frameStands_iff, fun x => retryMatch_eq_some_iff⟩⟩
  obtain ⟨carry, carried⟩ := exec_frameCommand r p f
  rw [carried]
  refine ⟨fun x cached retry code tag => ?_, fun fresh ended notAttach notPool notPort => ?_⟩
  · rw [takeFrame_of_retry stands (retryMatch_eq_some_iff.2 ⟨cached, retry, code, tag⟩)]
  · rw [takeFrame_of_noSession stands fresh ended (sessionless_eq_false notAttach notPool notPort)]

/-- Settles O3: the payload, then the session in which the Attach is carried out. -/
theorem attachFrameOutcomes : Obligations.AttachFrameOutcomes := by
  intro s p f stands fresh
  simp only [exec, execAttach, attachFrame]
  rw [takeFrame_of_carry (r := .attach) stands fresh (.inr rfl), respond_setPort, carryAttach_setPort,
    startExec_setPort, State.port_setPort_same]
  refine ⟨fun misfit => ?_, fun fits down => ?_, fun fits attached => ?_, fun fits closing => ?_⟩
  · rw [if_pos misfit]
    rfl
  · rw [if_neg (not_not.2 fits), PortCtl.framed, PortCtl.restarted_of_not_attached (by simp [down])]
    simp only [down]
  · rw [if_neg (not_not.2 fits), sessionEnd_setPort _ (by exact attached)]
    simp only [PortCtl.framed, attached]
    rfl
  · rw [if_neg (not_not.2 fits), PortCtl.framed, PortCtl.restarted_of_not_attached (by simp [closing])]
    simp only [closing]
    rfl

/-- Settles O4: in Attached the request is carried out by its payload. -/
theorem detachAndNopOutcomes : Obligations.DetachAndNopOutcomes := by
  refine fun s p f attached => ⟨fun stands fresh => ?_, fun stands fresh => ?_⟩
  · obtain ⟨-, receiving, -⟩ := frameStands_iff.1 stands
    simp only [exec, execDetach]
    rw [takeFrame_of_carry stands fresh (.inl attached), startExec_setPort, respond_setPort, sessionEnd_setPort _
      (by exact attached)]
    by_cases fits : f.payload = []
    · rw [if_neg (by simp [fits]), if_pos fits]
      rfl
    · rw [if_pos fits, if_neg fits, PortCtl.framed, PortCtl.restarted_of_receiving receiving attached]
      rfl
  · obtain ⟨-, receiving, -⟩ := frameStands_iff.1 stands
    simp only [exec, execNop]
    rw [takeFrame_of_carry stands fresh (.inl attached), respond_setPort, PortCtl.framed,
      PortCtl.restarted_of_receiving receiving attached]
    simp only [ite_not]
    rfl

/-- Settles O8: the answer meets the request in Executing; the parts of a report by their ranks. -/
theorem ownerAnswerBuildsResponse : Obligations.OwnerAnswerBuildsResponse := by
  refine ⟨fun s p e x rest waiting executing => ?_, fun _ _ _ _ _ _ h => reportBytes_poolStatus h,
    fun parts session epoch cause setting left charge reserve limit notes slot leases claim h => ?_,
    fun _ _ _ _ _ => ⟨rfl, rfl⟩, fun _ _ _ _ => ⟨rfl, rfl⟩⟩
  · rw [exec_ownerAnswer waiting executing]
    refine ⟨fun st payload final => ?_, fun part needed parts answer work => ?_⟩
    · rw [final, takeAnswer_final]
      rfl
    · rw [answer, takeAnswer_part work]
      simp only [PortCtl.answered_statusAnswer]
      rfl
  · rw [reportBytes_portStatus h]
    cases slot <;> simp only [StatusPart.bytes, byte1, List.append_assoc] <;> rfl

/-- Settles O9: PRST by session and Attach; its release by the line. -/
theorem prstAssertAndRelease : Obligations.PrstAssertAndRelease := by
  refine ⟨fun s p released => ?_, fun s p asserted => ?_, PortCtl.attaching_iff⟩
  · rw [exec_prstAssert released]
    rfl
  · simp only [exec, execPrstRelease, asserted, if_true]

/-- Settles O10: the timer that runs, that runs out and that is stopped; a setting by the timer it leaves. -/
theorem keepAliveTimerRules : Obligations.KeepAliveTimerRules := by
  refine ⟨fun s p stopped => congrArg _ (tick_of_stopped stopped),
    fun s p n running => congrArg _ (tick_of_running running (by omega)), fun s p sound last => ?_,
    fun s p x rest waiting => exec_keepAliveSetting waiting, fun n => ⟨rfl, rfl⟩⟩
  obtain ⟨attached, -⟩ := sound.timer 1 last
  have ended := tick_of_last last le_rfl attached
  exact ⟨congrArg _ ended, congrArg _ ((if_pos last).trans ended)⟩

/-- Settles O11: the last report or another; at Down, by what waits in Executing. -/
theorem cleanupReportReachesDown : Obligations.CleanupReportReachesDown := by
  intro s p b sound reported
  rw [exec_cleanupReport reported]
  dsimp only
  by_cases last : (s.port p).session = .closing ∧ (s.port p).outstanding.erase b = []
  · rw [if_pos last, if_neg (by simp [last])]
    split
    next executing => exact congrArg _ (reachDown_of_heldAttach (c := (s.port p).reported b) executing rfl)
    next executing => exact congrArg _ (reachDown_of_detach (c := (s.port p).reported b) executing rfl)
    next executing => exact congrArg _ (reachDown_of_detach (c := (s.port p).reported b) executing rfl)
    next unheld unmarked marked =>
      refine congrArg _ (reachDown_of_other (c := (s.port p).reported b) fun e executing => ?_)
      obtain ⟨code, tag, discard, work⟩ := e
      constructor
      · rintro rfl
        exact unheld _ _ _ executing
      · rintro rfl
        cases discard with
        | false => exact unmarked _ _ executing
        | true => exact marked _ _ executing
  · rw [if_neg last, if_pos (not_and_or.1 last)]
    rfl

/-- Settles O12: the enabled report, then a report that is the last or not. -/
theorem attachReportsFinishAttach : Obligations.AttachReportsFinishAttach := by
  refine ⟨fun s p e enabled executing work => ?_,
    fun s p e b x before after left charge waiting others block executing work sound => ?_⟩
  · simp only [exec, execNotifyEnabledReport, enabled, executing, work, if_true]
  · have taken := attachReports_find (after := after) block others
    rw [exec_attachReport (waiting ▸ taken) executing work, waiting, attachReports_erase block others]
    have attaching := (s.port p).attaching_iff.2 ⟨e, executing, .inr ⟨left, charge, work⟩⟩
    dsimp only
    by_cases last : left.erase b = []
    · rw [if_pos last, if_neg (not_not.2 last)]
      cases deferred : (s.port p).deferredReset with
      | true => exact congrArg _ (finishAttach_of_deferred (sound.attaching attaching) deferred)
      | false => exact congrArg _ (finishAttach_of_not_deferred deferred)
    · rw [if_neg last, if_pos last]

/-- Settles O48: each block takes the announcement; the Arrivals queue by queue. -/
theorem attachAnnouncementsTaken : Obligations.AttachAnnouncementsTaken := by
  refine fun s p => ⟨fun rest h => ?_, fun rest h => ?_, fun rest h => ?_, fun rest h => ?_⟩
  · simp only [exec, execNotifyAttach, h, if_true]
    rfl
  · simp only [exec, execPoolAttach, h, if_true]
  · simp only [exec, execLeaseAttach, h, if_true]
  · simp only [exec, execQueueAttach, h, if_true]
    rw [foldl_attachArrival (s := s) p allQueues fun q => queue_restQueue ..]

end Sys2Proof.Machine
end

section
/-! SUPPORT. What the configuration unit does with the message it takes: Claim and Release, the claim check and what
follows it, and the setting of a keep-alive timer with its payload (09 R148 to R157). -/

namespace Sys2Proof.Machine

/-! ### The requests of the ports -/

/-- The requests the claim check of 09 R152 stands before, each with the command that takes it. -/
def claimedRequests (p : Port) : List (Req × Instr) :=
  [(.defineQueue, .defineQueue (.checked p)), (.setQueue, .setQueue (.checked p)),
    (.closeQueue, .closeQueue (.checked p)), (.purgeQueue, .purgeQueue (.checked p)),
    (.setBudget, .setBudget (.checked p)), (.setKeepAlive, .setKeepAlive (.taken p)),
    (.resetPool, .resetPool (.taken p))]

theorem takeConfigRequest_eq {s : State} {p : Port} {r : Req} {payload : List Byte} {rest : List ConfigMsg}
    (h : s.links.toConfig.sent (.port p) = .request p r payload :: rest) :
    takeConfigRequest p r s = judgeConfig p r payload (restConfig (.port p) rest s) := by
  simp only [takeConfigRequest, h, and_self, if_true]

theorem exec_claim_taken {s : State} {p : Port} {payload : List Byte} {rest : List ConfigMsg}
    (h : s.links.toConfig.sent (.port p) = .request p .claim payload :: rest) :
    exec (.claim (.taken p)) s = .next (judgeClaim p payload (restConfig (.port p) rest s)) :=
  congrArg _ (takeConfigRequest_eq h)

theorem exec_release_taken {s : State} {p : Port} {payload : List Byte} {rest : List ConfigMsg}
    (h : s.links.toConfig.sent (.port p) = .request p .release payload :: rest) :
    exec (.release (.taken p)) s = .next (judgeRelease p payload (restConfig (.port p) rest s)) :=
  congrArg _ (takeConfigRequest_eq h)

section
variable {s : State} {p : Port} {r : Req} {c : Instr} {payload : List Byte} {rest : List ConfigMsg}

/-- The claim check (09 R152). -/
theorem exec_claimedRequest (hc : (r, c) ∈ claimedRequests p)
    (h : s.links.toConfig.sent (.port p) = .request p r payload :: rest) :
    exec c s = .next (
      if s.config.holder = some p then routeConfig p r payload (restConfig (.port p) rest s)
      else reply p .notClaimed [optByte s.config.holder] (restConfig (.port p) rest s)) := by
  simp only [claimedRequests, List.mem_cons, Prod.mk.injEq, List.not_mem_nil, or_false] at hc
  rcases hc with ⟨rfl, rfl⟩ | ⟨rfl, rfl⟩ | ⟨rfl, rfl⟩ | ⟨rfl, rfl⟩ | ⟨rfl, rfl⟩ | ⟨rfl, rfl⟩ | ⟨rfl, rfl⟩ <;>
    exact congrArg _ (takeConfigRequest_eq h)

theorem exec_claimedRequest_of_holder (hc : (r, c) ∈ claimedRequests p)
    (h : s.links.toConfig.sent (.port p) = .request p r payload :: rest) (holder : s.config.holder = some p) :
    exec c s = .next (routeConfig p r payload (restConfig (.port p) rest s)) :=
  (exec_claimedRequest hc h).trans (congrArg _ (if_pos holder))

theorem exec_claimedRequest_of_not_holder (hc : (r, c) ∈ claimedRequests p)
    (h : s.links.toConfig.sent (.port p) = .request p r payload :: rest) (other : s.config.holder ≠ some p) :
    exec c s = .next (reply p .notClaimed [optByte s.config.holder] (restConfig (.port p) rest s)) :=
  (exec_claimedRequest hc h).trans (congrArg _ (if_neg other))

/-- The requests that are left when the owners other than the queue engine have theirs (09 R152). -/
theorem routeConfig_of_queueRequest (hc : (r, c) ∈ claimedRequests p) (budget : r ≠ .setBudget)
    (keepAlive : r ≠ .setKeepAlive) (reset : r ≠ .resetPool) (s : State) :
    routeConfig p r payload s = sendQueue .config (.request p r payload) s := by
  simp only [claimedRequests, List.mem_cons, Prod.mk.injEq, budget, keepAlive, reset, false_and, List.not_mem_nil,
    or_false] at hc
  rcases hc with ⟨rfl, -⟩ | ⟨rfl, -⟩ | ⟨rfl, -⟩ | ⟨rfl, -⟩ <;> rfl

end

/-! ### The claim becomes free -/

/-- The three other ports, lowest first (09 R149, assumption 19). -/
theorem otherPorts_eq (p : Port) : otherPorts p = [0, 1, 2, 3].filter fun k : Port => k ≠ p :=
  List.filter_congr fun _ _ => (decide_not ..).symm

theorem exec_configSessionEnd {s : State} {p : Port} {rest : List ConfigMsg}
    (h : s.links.toConfig.sent (.port p) = .sessionEnd p :: rest) :
    exec (.configSessionEnd p) s = .next (reportCleanup p .config (
      if s.config.holder = some p then freeClaim p (restConfig (.port p) rest s)
      else restConfig (.port p) rest s)) := by
  simp only [exec, execConfigSessionEnd, h, if_true]

/-! ### SetKeepAlive -/

/-- Only a payload of 3 bytes fits the layout of a SetKeepAlive (10 R164). -/
theorem parseKeepAlive_eq_none_of_length {payload : List Byte} (h : payload.length ≠ 3) :
    parseKeepAlive payload = none := by
  unfold parseKeepAlive
  split
  · exact absurd rfl h
  · rfl

/-- The payload of a SetKeepAlive, as a master builds it: a port, and 0 or 10 to 60000 (09 R154). -/
theorem parseKeepAlive_bytes_eq_some_iff {b : Byte} {k j : Nat} {m : Port} (hk : k < 65536) :
    parseKeepAlive (b :: byte2 k) = some (m, j) ↔
      m.val = b.toNat ∧ k = j ∧ (k = 0 ∨ (10 ≤ k ∧ k ≤ 60000)) := by
  simp only [byte2, parseKeepAlive, nat2_byte2 hk, Option.bind_eq_bind, Option.bind_eq_some_iff, Option.pure_def,
    Option.ite_none_right_eq_some, Option.some.injEq, Prod.mk.injEq, portField_eq_some_iff]
  constructor
  · rintro ⟨_, port, range, rfl, rfl⟩
    exact ⟨port, rfl, range⟩
  · rintro ⟨port, rfl, range⟩
    exact ⟨m, port, range, rfl, rfl⟩

theorem judgeKeepAlive_of_none {payload : List Byte} (h : parseKeepAlive payload = none) (p : Port) (s : State) :
    judgeKeepAlive p payload s = reply p .range [] s := by
  simp only [judgeKeepAlive, h]

theorem judgeKeepAlive_of_some {payload : List Byte} {m : Port} {k : Nat} (h : parseKeepAlive payload = some (m, k))
    (p : Port) (s : State) :
    judgeKeepAlive p payload s =
      let t := s.setConfig { s.config with keepAlive := upd s.config.keepAlive m k }
      t.setLinks { t.links with
        settings := upd t.links.settings m (sel t.links.settings m ++ [{ requester := p, setting := k }]) } := by
  simp only [judgeKeepAlive, h]

/-! ### The reports to the configuration unit -/

theorem exec_keepAliveTakenReport {s : State} {p requester : Port} {k : Nat} {rest : List ConfigMsg}
    (h : s.links.toConfig.sent (.port p) = .settingTaken requester k :: rest) :
    exec (.keepAliveTakenReport p) s = .next
      (reply requester .ok (BitVec.ofNat 8 p.val :: byte2 k) (restConfig (.port p) rest s)) := by
  simp only [exec, execKeepAliveTakenReport, h, List.singleton_append]

theorem exec_completionReport {s : State} {p : Port} {more : List Port} {rest : List ConfigMsg}
    (h : s.links.toConfig.sent .pool = .completion :: rest) (head : s.config.resetList = p :: more) :
    exec .completionReport s = .next (reply p .ok [] <| postAll .config allPorts .poolReset <|
      (restConfig .pool rest s).setConfig { s.config with resetList := more }) := by
  simp only [exec, execCompletionReport, h, head]

end Sys2Proof.Machine
end

section
/-! The statements about the configuration unit. -/

namespace Sys2Proof.Machine

/-- Settles O49: the two requests and the session end as the unit takes them; the freed claim by its posts. -/
theorem claimReleaseAndSessionEnd : Obligations.ClaimReleaseAndSessionEnd := by
  refine ⟨fun s p payload rest => ?_, fun h => ⟨rfl, rfl⟩⟩
  dsimp only
  rw [← otherPorts_eq]
  exact ⟨exec_claim_taken, exec_release_taken, exec_configSessionEnd⟩

/-- Settles O50: the claim check, then the owner of each request; a SetKeepAlive by its parser. -/
theorem configurationRequestsRouted : Obligations.ConfigurationRequestsRouted := by
  refine ⟨fun s p r cmd payload rest hc h => ⟨exec_claimedRequest_of_not_holder hc h,
    fun holder budget keepAlive reset => ?_, fun holder budget => ?_, fun holder reset => ?_,
    fun holder keepAlive => ?_⟩, fun _ _ _ _ _ => exec_keepAliveTakenReport, fun _ _ _ _ => exec_completionReport⟩ <;>
    rw [exec_claimedRequest_of_holder hc h holder]
  · rw [routeConfig_of_queueRequest hc budget keepAlive reset]
  · rw [budget]
    rfl
  · rw [reset]
    rfl
  · rw [keepAlive]
    refine ⟨fun misfit => congrArg _ (judgeKeepAlive_of_none (parseKeepAlive_eq_none_of_length misfit) ..), ?_⟩
    rintro n k bound rfl
    refine ⟨fun bad => congrArg _ (judgeKeepAlive_of_none (Option.eq_none_iff_forall_ne_some.2 ?_) ..),
      fun m port range =>
        congrArg _ (judgeKeepAlive_of_some ((parseKeepAlive_bytes_eq_some_iff bound).2 ⟨port, rfl, range⟩) ..)⟩
    rintro ⟨m, j⟩ parsed
    obtain ⟨port, -, range⟩ := (parseKeepAlive_bytes_eq_some_iff bound).1 parsed
    omega

end Sys2Proof.Machine
end

section
/-! SUPPORT. Request frames as bytes on the link: the flags byte and the length field, the judgement of a frame reason
by reason, and as the inverse of the encoder (10 R162, R163). -/

namespace Sys2Proof.Machine

/-! ### The header -/

/-- The mask of the flags other than RETRY (10 R163). -/
theorem and_otherFlags_eq_zero_iff {flags : Byte} :
    flags &&& 0xFE = 0 ↔ ¬∃ i, 1 ≤ i ∧ flags.getLsbD i = true := by
  have mask (i : Nat) : (0xFE : Byte).getLsbD i = (decide (i < 8) && !decide (i = 0)) := by
    rw [show (0xFE : Byte) = ~~~1#8 from rfl, BitVec.getLsbD_not, BitVec.getLsbD_one]
    simp
  constructor
  · rintro clear ⟨i, other, set⟩
    have bit : (flags &&& 0xFE).getLsbD i = true := by
      rw [BitVec.getLsbD_and, mask, set]
      have := BitVec.lt_of_getLsbD set
      simp
      omega
    rw [clear] at bit
    simp at bit
  · refine fun others => BitVec.eq_of_getLsbD_eq fun i hi => ?_
    rw [BitVec.getLsbD_and, mask]
    by_cases first : i = 0
    · simp [first]
    · have := mt (fun set => ⟨i, Nat.one_le_iff_ne_zero.2 first, set⟩) others
      simp [this]

/-- The flags byte is that of its RETRY bit where no other flag is set. -/
theorem flagsByte_eq {flags : Byte} (clear : flags &&& 0xFE = 0) : (if flags.getLsbD 0 then 1 else 0) = flags := by
  refine BitVec.eq_of_getLsbD_eq fun i hi => ?_
  by_cases first : i = 0
  · subst first
    cases flags.getLsbD 0 <;> rfl
  · have := mt (fun set => ⟨i, Nat.one_le_iff_ne_zero.2 first, set⟩) (and_otherFlags_eq_zero_iff.1 clear)
    rw [eq_false_of_ne_true this]
    split <;> simp [BitVec.getLsbD_one, first]

/-- The length field, written back (10 R171). -/
theorem lengthField_bytes (hi lo : Byte) :
    BitVec.ofNat 8 (lengthField hi lo / 256) = hi ∧ BitVec.ofNat 8 (lengthField hi lo) = lo := by
  have := hi.isLt
  have := lo.isLt
  constructor <;> refine BitVec.eq_of_toNat_eq ?_ <;> simp only [lengthField, BitVec.toNat_ofNat] <;> omega

/-! ### The judgement (10 R163) -/

theorem judgeFrame_of_short {bytes : List Byte} (short : bytes.length < 5) : judgeFrame bytes = .inl .truncated := by
  unfold judgeFrame
  split
  · simp only [List.length_cons] at short
    omega
  · rfl

section
variable {code tag flags hi lo : Byte} {rest : List Byte}

theorem judgeFrame_of_flags (other : flags &&& 0xFE ≠ 0) :
    judgeFrame (code :: tag :: flags :: hi :: lo :: rest) = .inl .flags :=
  if_pos other

theorem judgeFrame_of_length (clear : flags &&& 0xFE = 0) (long : 288 < lengthField hi lo) :
    judgeFrame (code :: tag :: flags :: hi :: lo :: rest) = .inl .length :=
  (if_neg (not_not.2 clear)).trans (if_pos long)

theorem judgeFrame_of_truncated (clear : flags &&& 0xFE = 0) (fits : lengthField hi lo ≤ 288)
    (short : rest.length < lengthField hi lo + 2) :
    judgeFrame (code :: tag :: flags :: hi :: lo :: rest) = .inl .truncated :=
  (if_neg (not_not.2 clear)).trans <| (if_neg fits.not_gt).trans (if_pos short)

theorem judgeFrame_of_whole (clear : flags &&& 0xFE = 0) (fits : lengthField hi lo ≤ 288)
    (whole : lengthField hi lo + 2 ≤ rest.length) :
    judgeFrame (code :: tag :: flags :: hi :: lo :: rest) =
      if (rest.drop (lengthField hi lo)).take 2 ≠
          crcBytes (code :: tag :: flags :: hi :: lo :: rest.take (lengthField hi lo)) then .inl .crc
      else .inr (code, { tag, retry := flags.getLsbD 0, payload := rest.take (lengthField hi lo) }) :=
  (if_neg (not_not.2 clear)).trans <| (if_neg fits.not_gt).trans (if_neg whole.not_gt)

end

/-- A good frame is long enough for its header, no reason holds of it, and its content stands in it (10 R163). -/
theorem judgeFrame_layout {bytes : List Byte} {code : Byte} {f : Frame} (good : judgeFrame bytes = .inr (code, f)) :
    ∃ tag flags hi lo rest, bytes = code :: tag :: flags :: hi :: lo :: rest ∧ flags &&& 0xFE = 0 ∧
      lengthField hi lo ≤ 288 ∧ lengthField hi lo + 2 ≤ rest.length ∧
      (rest.drop (lengthField hi lo)).take 2 =
        crcBytes (code :: tag :: flags :: hi :: lo :: rest.take (lengthField hi lo)) ∧
      f = { tag, retry := flags.getLsbD 0, payload := rest.take (lengthField hi lo) } := by
  match bytes with
  | [] | [_] | [_, _] | [_, _, _] | [_, _, _, _] => cases good
  | first :: tag :: flags :: hi :: lo :: rest =>
    have clear : flags &&& 0xFE = 0 := by_contra fun other => by
      cases (judgeFrame_of_flags other).symm.trans good
    have fits : lengthField hi lo ≤ 288 := by_contra fun long => by
      cases (judgeFrame_of_length clear (not_le.1 long)).symm.trans good
    have whole : lengthField hi lo + 2 ≤ rest.length := by_contra fun short => by
      cases (judgeFrame_of_truncated clear fits (not_le.1 short)).symm.trans good
    rw [judgeFrame_of_whole clear fits whole] at good
    split at good
    · cases good
    next crc =>
      cases good
      exact ⟨tag, flags, hi, lo, rest, rfl, clear, fits, whole, not_not.1 crc, rfl⟩

/-- The bytes that the CRC of a frame covers (10 R170). -/
def frameCovered (code : Byte) (f : Frame) : List Byte :=
  [code, f.tag, if f.retry then 1 else 0, BitVec.ofNat 8 (f.payload.length / 256), BitVec.ofNat 8 f.payload.length] ++
    f.payload

theorem encodeFrame_eq (code : Byte) (f : Frame) :
    encodeFrame code f = frameCovered code f ++ crcBytes (frameCovered code f) := rfl

theorem judgeFrame_encodeFrame (code : Byte) {f : Frame} (more : List Byte) (fits : f.payload.length ≤ 288) :
    judgeFrame (encodeFrame code f ++ more) = .inr (code, f) := by
  obtain ⟨tag, retry, payload⟩ := f
  have length : lengthField (BitVec.ofNat 8 (payload.length / 256)) (BitVec.ofNat 8 payload.length) = payload.length :=
    nat2_byte2 (fits.trans_lt (by decide))
  have clear : (if retry then (1 : Byte) else 0) &&& 0xFE = 0 := by cases retry <;> rfl
  have flag : (if retry then (1 : Byte) else 0).getLsbD 0 = retry := by cases retry <;> rfl
  simp only [encodeFrame_eq, frameCovered, List.cons_append, List.nil_append, List.append_assoc]
  rw [judgeFrame_of_whole clear (by rwa [length]) (by simp [length, crcBytes]), length, flag, List.drop_left,
    List.take_left, if_neg (not_not.2 ?_)]
  exact List.take_left' rfl

theorem encodeFrame_of_judgeFrame {bytes : List Byte} {code : Byte} {f : Frame}
    (good : judgeFrame bytes = .inr (code, f)) : encodeFrame code f <+: bytes ∧ f.payload.length ≤ 288 := by
  obtain ⟨tag, flags, hi, lo, rest, rfl, clear, fits, whole, crc, rfl⟩ := judgeFrame_layout good
  have length : (rest.take (lengthField hi lo)).length = lengthField hi lo :=
    List.length_take_of_le ((Nat.le_add_right ..).trans whole)
  obtain ⟨high, low⟩ := lengthField_bytes hi lo
  refine ⟨⟨(rest.drop (lengthField hi lo)).drop 2, ?_⟩, length.trans_le fits⟩
  simp only [encodeFrame_eq, frameCovered, length, high, low, flagsByte_eq clear, List.cons_append, List.nil_append,
    ← crc, List.append_assoc, List.take_append_drop]

end Sys2Proof.Machine
end

section
/-! SUPPORT. The CRC bit by bit: the model adds a whole byte to the register and then shifts eight times, which is what
taking its bits one after the other gives (10 R170). -/

namespace Sys2Proof.Machine

/-- The register takes one bit of the message: it is reduced by the polynomial where that bit differs from the one
shifted out. -/
def crcBit (c : BitVec 16) (b : Bool) : BitVec 16 := if c.msb = b then c <<< 1 else (c <<< 1) ^^^ 0x1021

/-- One of the eight shifts of `crcByte`. -/
def crcShift (c : BitVec 16) : BitVec 16 := if c.msb then (c <<< 1) ^^^ 0x1021 else c <<< 1

theorem crcByte_eq_iterate (crc : BitVec 16) (b : Byte) :
    crcByte crc b = crcShift^[8] (crc ^^^ (b.zeroExtend 16 <<< 8)) := rfl

/-- What has been added to the register ahead of time is shifted along with it. -/
theorem crcShift_xor (c d : BitVec 16) : crcShift (c ^^^ d) = crcBit c d.msb ^^^ (d <<< 1) := by
  simp only [crcShift, crcBit, BitVec.msb_xor, BitVec.shiftLeft_xor_distrib]
  cases c.msb <;> cases d.msb <;> simp [BitVec.xor_assoc, BitVec.xor_comm (d <<< 1)]

theorem crcShift_iterate_xor (c d : BitVec 16) (n : Nat) :
    crcShift^[n] (c ^^^ d) = ((List.range n).map d.getMsbD).foldl crcBit c ^^^ (d <<< n) := by
  induction n with
  | zero => simp
  | succ n ih =>
    have front : (d <<< n).msb = d.getMsbD n := by simp [BitVec.msb]
    rw [Function.iterate_succ_apply', ih, crcShift_xor, front, List.range_succ, List.map_append, List.foldl_append,
      BitVec.shiftLeft_add]
    rfl

/-- The bits of a byte, most significant first. -/
def byteBits (b : Byte) : List Bool := (List.range 8).map fun i => b.getLsbD (7 - i)

theorem crcByte_eq_foldl (crc : BitVec 16) (b : Byte) : crcByte crc b = (byteBits b).foldl crcBit crc := by
  have bits : (List.range 8).map (b.zeroExtend 16 <<< 8).getMsbD = byteBits b :=
    List.map_congr_left fun i hi => by
      have := List.mem_range.1 hi
      obtain ⟨first, last, place⟩ : i + 8 < 16 ∧ 7 - i < 16 ∧ 15 - (i + 8) = 7 - i := by omega
      rw [BitVec.getMsbD_shiftLeft]
      simp [BitVec.getMsbD, first, last, place]
  have shiftedOut : (b.zeroExtend 16 <<< 8) <<< 8 = 0 := by
    rw [← BitVec.shiftLeft_add]
    exact BitVec.shiftLeft_eq_zero le_rfl
  rw [crcByte_eq_iterate, crcShift_iterate_xor, bits, shiftedOut]
  exact BitVec.xor_zero

theorem crc16_eq_foldl (bytes : List Byte) : crc16 bytes = (bytes.flatMap byteBits).foldl crcBit 0xFFFF := by
  rw [crc16, List.foldl_flatMap]
  exact congrArg (fun f => List.foldl f _ bytes) (funext₂ crcByte_eq_foldl)

end Sys2Proof.Machine
end

section
/-! SUPPORT. What the port controllers do at the end of a bad, an undefined and an overrun frame, and what they do with
a transaction under SEL, happening by happening (10 R160 to R168, 08 R146). -/

namespace Sys2Proof.Machine

section
variable {p : Port} {s : State}

/-! ### Frames that are not handed on -/

/-- 10 R163: the first reason found, with the code and tag received. -/
theorem exec_badFrame {code : Byte} {rest : List Byte} {reason : BadReason} (link : (s.port p).link = .request code)
    (receiving : (s.port p).engine = .receiving) (bad : judgeFrame (code :: rest) = .inl reason) :
    exec (.badFrame p (code :: rest)) s = .next (s.setPort p { (s.port p).ready (atn s.notify p)
        { status := .badFrame, tag := rest.headD 0, code, epoch := (s.port p).epoch, payload := [reason.code] } with
      link := .none }) := by
  have tag : tagOf (code :: rest) = rest.headD 0 := by cases rest <;> rfl
  simp only [exec, execBadFrame, List.getD_cons_zero, link, receiving, bad, tag, respondBad, makeReady_setPort,
    State.port_setPort_same, ne_eq, reduceCtorEq, not_false_eq_true, and_self, if_true]
  rfl

/-- 10 R164, 08 R132: RETRY is matched first. -/
theorem exec_unknownRequest_of_retry {code : Byte} {f : Frame} {x : Cached} (stands : frameStands p code f s = true)
    (undefined : knownCode code = false) (matched : retryMatch p code f s = some x) :
    exec (.unknownRequest p code f) s = .next (s.setPort p ((s.port p).framed.ready (atn s.notify p) x)) := by
  simp only [exec, execUnknownRequest, stands, undefined, matched, Bool.false_eq_true, not_false_eq_true, and_self,
    if_true, restartTimer_setPort, makeReady_setPort]
  rfl

theorem exec_unknownRequest_of_fresh {code : Byte} {f : Frame} (stands : frameStands p code f s = true)
    (undefined : knownCode code = false) (fresh : retryMatch p code f s = none) :
    exec (.unknownRequest p code f) s =
      .next (s.setPort p ((s.port p).framed.built (atn s.notify p) code f.tag .unknownRequest [])) := by
  simp only [exec, execUnknownRequest, stands, undefined, fresh, Bool.false_eq_true, not_false_eq_true, and_self,
    if_true, restartTimer_setPort, respond_setPort]
  rfl

/-- 10 R165, 08 R140: the pending OVERRUN flag, and the timer after a good frame. -/
theorem exec_overrunFrame {bytes : List Byte} (overrun : (s.port p).link = .overrun) :
    exec (.overrunFrame p bytes) s = .next (s.setPort p { s.port p with
      link := .none
      overrun := true
      timer := if isBad bytes then (s.port p).timer else (s.port p).restarted }) := by
  simp only [exec, execOverrunFrame, overrun, if_true, restartTimer_setPort]
  split <;> rfl

/-! ### The assertion of SEL and the first byte (10 R160, R162, R165) -/

theorem linkIgnored_iff : linkIgnored p s = true ↔ s.resetLow = true ∨ (s.port p).prst = true :=
  Bool.or_eq_true_iff

theorem linkIgnored_eq_false (running : s.resetLow = false) (released : (s.port p).prst = false) :
    linkIgnored p s = false := by
  rw [linkIgnored, running, released, Bool.or_false]

theorem assertSel_of_none (idle : (s.port p).link = .none) :
    assertSel p s = s.setPort p (
      if s.resetLow = true ∨ (s.port p).prst = true then { s.port p with shifted := [0x00] }
      else { s.port p with
        link := .selected (rdy (s.port p)), shifted := [if rdy (s.port p) then 0xA5 else 0x00] }) := by
  simp only [assertSel, idle, ne_eq, not_true_eq_false, if_false, linkIgnored_iff, presence]
  split <;> rfl

theorem firstByte_of_ignored {code : Byte}
    (h : s.resetLow = true ∨ (s.port p).prst = true ∨ (s.port p).link = .none) : firstByte p code s = s := by
  unfold firstByte
  rcases or_assoc.2 h with ignored | outside
  · exact if_pos (.inr (linkIgnored_iff.2 ignored))
  · simp only [outside, ite_self]

theorem firstByte_of_executing {code : Byte} {present : Bool} {e : ExecReq} (request : code ≠ 0)
    (selected : (s.port p).link = .selected present) (taken : linkIgnored p s = false)
    (executing : (s.port p).engine = .executing e) :
    firstByte p code s = s.setPort p { s.port p with link := .overrun } := by
  simp only [firstByte, selected, executing, request, taken, Bool.false_eq_true, or_self, if_false]

theorem firstByte_of_not_executing {code : Byte} {present : Bool} (request : code ≠ 0)
    (selected : (s.port p).link = .selected present) (taken : linkIgnored p s = false)
    (free : ∀ e, (s.port p).engine ≠ .executing e) :
    firstByte p code s = s.setPort p { s.port p with engine := .receiving, link := .request code } := by
  simp only [firstByte, selected, request, taken, Bool.false_eq_true, or_self, if_false]

/-! ### The response read (10 R160, R167) -/

theorem exec_responseRead_firstByte {present : Bool} (selected : (s.port p).link = .selected present)
    (taken : linkIgnored p s = false) :
    exec (.responseRead p .firstByte) s = .next (s.setPort p { s.port p with link := .reading present }) := by
  simp only [exec, execResponseRead, selected, taken, Bool.false_eq_true, if_false]

theorem endRead_of_selected {present : Bool} (selected : (s.port p).link = .selected present) (n : Nat) :
    endRead p n s = s.setPort p { s.port p with link := .none } := by
  simp only [endRead, selected]

theorem endRead_of_ready {r : Response} (reading : (s.port p).link = .reading true)
    (ready : (s.port p).engine = .responseReady r) (n : Nat) :
    endRead p n s = s.setPort p { s.port p with
      link := .none
      shifted := 0xA5 :: (r.bytes ++ List.replicate n 0xFF).take n
      engine := if n < r.bytes.length then .responseReady r else .idle } := by
  simp only [endRead, reading, ready, List.take_append, List.take_replicate, min_eq_left (Nat.sub_le ..),
    ← not_lt (a := n), ite_not]
  rfl

theorem endRead_of_notReady (reading : (s.port p).link = .reading false) (n : Nat) :
    endRead p n s = s.setPort p { s.port p with link := .none, shifted := 0x00 :: List.replicate n 0xFF } := by
  simp only [endRead, reading]
  rfl

end

/-! ### The lines RDY and MISO (10 R160, R161) -/

theorem rdy_iff {c : PortCtl} : rdy c = true ↔ ∃ r, c.engine = .responseReady r := by
  cases engine : c.engine <;> simp [rdy, engine]

theorem PortCtl.miso_response {c : PortCtl} {r : Response} (reading : c.link = .reading true)
    (ready : c.engine = .responseReady r) (k : Nat) : c.miso (k + 1) = (r.bytes[k]?).getD 0xFF := by
  simp only [miso, reading, ready, List.getD_eq_getElem?_getD]

theorem PortCtl.miso_filler {c : PortCtl} (h : c.link ≠ .reading true ∨ rdy c = false) (k : Nat) :
    c.miso (k + 1) = 0xFF := by
  simp only [miso]
  split
  next reading ready =>
    rcases h with other | notReady
    · exact absurd reading other
    · simp [rdy, ready] at notReady
  next => rfl

/-! ### The fields of a response (10 section 10.7.1, R171) -/

theorem flagsField_eq (overrun atn : Bool) :
    bit overrun ||| (bit atn <<< 1) =
      BitVec.ofNat 8 ((if overrun = true then 1 else 0) + if atn = true then 2 else 0) := by
  cases overrun <;> cases atn <;> rfl

theorem extractLsb'_eq_ofNat_div (w : Word) (k : Nat) : w.extractLsb' k 8 = BitVec.ofNat 8 (w.toNat / 2 ^ k) :=
  congrArg (BitVec.ofNat 8) (Nat.shiftRight_eq_div_pow ..)

theorem byte4_eq (w : Word) : byte4 w = [BitVec.ofNat 8 (w.toNat / 16777216), BitVec.ofNat 8 (w.toNat / 65536),
    BitVec.ofNat 8 (w.toNat / 256), BitVec.ofNat 8 w.toNat] := by
  simp only [byte4, extractLsb'_eq_ofNat_div, Nat.reducePow, Nat.div_one]

end Sys2Proof.Machine
end

section
/-! SUPPORT. What device reset leaves of the free list and of the state (10 R172). -/

namespace Sys2Proof.Machine

theorem length_cellRun (n k : Nat) : (cellRun n k).length = n := by
  rw [cellRun_eq, List.length_map, List.length_range']

theorem port_afterReset (low : Bool) (s : State) (p : Port) :
    (afterReset low s).port p = { PortCtl.reset with prst := (s.port p).prst } := sel_ofFn ..

end Sys2Proof.Machine
end

section
/-! The statements about the host port link and its frames, and about device reset. -/

namespace Sys2Proof.Machine

/-- Settles O54: the encoder's bytes are judged field by field, and a good frame is written back field by field. -/
theorem frameRoundTrip : Obligations.FrameRoundTrip :=
  ⟨fun code _ more fits => judgeFrame_encodeFrame code more fits, fun _ _ _ good => encodeFrame_of_judgeFrame good,
    fun _ _ => rfl⟩

/-- Settles O5: an equation for each command; the judgement reason by reason. -/
theorem badAndUnknownFrames : Obligations.BadAndUnknownFrames := by
  refine ⟨fun s p code rest reason link receiving bad => exec_badFrame link receiving bad,
    fun s p code f stands undefined => ?_, fun bytes short => judgeFrame_of_short short,
    fun code tag flags hi lo rest => ?_, rfl, fun code => ?_⟩
  · cases matched : retryMatch p code f s with
    | some x => exact exec_unknownRequest_of_retry stands undefined matched
    | none => exact exec_unknownRequest_of_fresh stands undefined matched
  · dsimp only
    have length : hi.toNat * 256 + lo.toNat = lengthField hi lo := rfl
    have received : (code :: tag :: flags :: hi :: lo :: rest).length = rest.length + 5 := rfl
    rw [length, received, ← and_otherFlags_eq_zero_iff]
    refine ⟨fun other => judgeFrame_of_flags fun clear => and_otherFlags_eq_zero_iff.1 clear other,
      judgeFrame_of_length, fun clear fits short => judgeFrame_of_truncated clear fits (by omega),
      fun clear fits whole crc => ?_⟩
    rw [judgeFrame_of_whole clear fits (by omega)]
    exact if_pos crc
  · rw [knownCode, Bool.and_eq_true, decide_eq_true_iff, decide_eq_true_iff]

/-- Settles O6: the first byte by the state of the engine at it; the overrun frame by its judgement. -/
theorem firstByteAndOverrunFrame : Obligations.FirstByteAndOverrunFrame := by
  refine ⟨fun s p code present request selected running released => ?_,
    fun s p code ignored => congrArg _ (firstByte_of_ignored ignored), fun s p bytes overrun => ?_⟩
  · have taken := linkIgnored_eq_false running released
    cases engine : (s.port p).engine with
    | executing e => exact congrArg _ (firstByte_of_executing request selected taken engine)
    | idle | receiving | responseReady r =>
      exact congrArg _ (firstByte_of_not_executing request selected taken (by simp [engine]))
  · rw [exec_overrunFrame overrun, isBad]
    cases judgeFrame bytes <;> rfl

/-- Settles O7: each happening of a transaction by the link; the lines by the engine; the fields byte by byte. -/
theorem responseReadOutcomes : Obligations.ResponseReadOutcomes := by
  refine ⟨fun s p idle => ⟨congrArg _ (assertSel_of_none idle), congrArg _ (assertSel_of_none idle)⟩,
    fun s p present selected => ⟨fun running released =>
      exec_responseRead_firstByte selected (linkIgnored_eq_false running released),
      fun n => congrArg _ (endRead_of_selected selected n)⟩,
    fun s p n r reading ready => congrArg _ (endRead_of_ready reading ready n),
    fun s p n reading => congrArg _ (endRead_of_notReady reading n), fun r => ?_, fun bytes => ?_,
    fun st code h => ?_, fun n w => ⟨rfl, rfl, byte4_eq w⟩, fun c => rdy_iff,
    fun c k => ⟨rfl, fun r reading ready => c.miso_response reading ready k, fun h => c.miso_filler h k⟩⟩
  · rw [Response.bytes, flagsField_eq]
    rfl
  · rw [crcBytes, crc16_eq_foldl]
    rfl
  · simp only [List.mem_cons, Prod.mk.injEq, List.not_mem_nil, or_false] at h
    cases st <;> simp only [reduceCtorEq, false_and, true_and, false_or, or_false] at h <;> exact h.symm

/-- Settles O13: the reset value of each block, field by field. -/
theorem deviceResetAndRelease : Obligations.DeviceResetAndRelease := by
  refine ⟨fun s p => ⟨afterReset true s, rfl, rfl, reset_queue, rfl, rfl, rfl, rfl, rfl, rfl, rfl,
      port_afterReset true s p⟩, fun s => rfl, fun p c => ?_, rfl, rfl, fun p q => ?_, fun p a => ?_, fun p => ?_,
    rfl, fun src p => ?_⟩
  · exact ⟨mem_allCells c, length_cellRun 4096 0, sel_replicate .., sel_replicate .., sel_replicate ..,
      sel_replicate .., sel_replicate .., sel_replicate .., sel_replicate .., rfl, rfl, rfl, rfl, rfl, rfl⟩
  · exact ⟨rfl, sel_replicate .., sel_replicate .., sel_replicate .., rfl, rfl, sel_replicate .., sel_replicate ..,
      sel_replicate .., rfl⟩
  · exact ⟨sel_replicate .., by simp [Notify.reset, signalSlot]⟩
  · exact ⟨rfl, sel_replicate .., rfl⟩
  · exact ⟨Inbox.sent_empty src, Inbox.sent_empty src, Inbox.sent_empty src, Inbox.sent_empty src,
      Inbox.sent_empty src, sel_replicate .., sel_replicate .., sel_replicate .., sel_replicate .., sel_replicate ..,
      sel_replicate ..⟩

end Sys2Proof.Machine
end

section
/-! SUPPORT. The status requests: what the end of their frames sends, what each place answers, and the payload of a
QueueStatus (11 R173 to R177). -/

namespace Sys2Proof.Machine

/-- A payload of one port is one byte that names a port (11 R174). -/
theorem parsePort_eq_some_iff {payload : List Byte} {n : Port} :
    parsePort payload = some n ↔ ∃ b, payload = [b] ∧ b.toNat = n.val := by
  unfold parsePort
  split
  next b => simp [portField_eq_some_iff, eq_comm (a := n.val)]
  next other => exact iff_of_false (by simp) fun ⟨b, hb, _⟩ => other b hb

/-! ### The frames of a PoolStatus and of a PortStatus -/

/-- The request engine waits in Executing for the parts of a report, the frame of its request taken. -/
def PortCtl.awaiting (c : PortCtl) (code tag : Byte) (needed : Nat) : PortCtl :=
  { c.framed with engine := .executing { code, tag, discard := false, work := .status needed [] } }

section
variable {p : Port} {f : Frame} {s : State}

/-- A PoolStatus is handed on whatever its payload, which its takers judge (10 R164, 11 R173). -/
theorem exec_poolStatus_of_fresh (stands : frameStands p Req.poolStatus.code f s = true)
    (fresh : retryMatch p Req.poolStatus.code f s = none) :
    exec (.poolStatus p f) s = .next (sendPool (.port p) (.poolQuery p f.payload) <|
      sendLease (.port p) (.poolQuery p f.payload) <|
        s.setPort p ((s.port p).awaiting Req.poolStatus.code f.tag 2)) := by
  simp only [exec, execPoolStatus]
  rw [takeFrame_of_carry stands fresh (.inr rfl), startExec_setPort]
  rfl

/-- A PortStatus that names no port is answered at the requester's own controller; no place is queried (11 R174). -/
theorem exec_portStatus_of_misfit (stands : frameStands p Req.portStatus.code f s = true)
    (fresh : retryMatch p Req.portStatus.code f s = none) (misfit : parsePort f.payload = none) :
    exec (.portStatus p f) s =
      .next (s.setPort p ((s.port p).framed.built (atn s.notify p) Req.portStatus.code f.tag .range [])) := by
  simp only [exec, execPortStatus, misfit]
  rw [takeFrame_of_carry stands fresh (.inr rfl), respond_setPort]

theorem exec_portStatus_of_port {n : Port} (stands : frameStands p Req.portStatus.code f s = true)
    (fresh : retryMatch p Req.portStatus.code f s = none) (named : parsePort f.payload = some n) :
    exec (.portStatus p f) s = .next (
      sendConfig (.port p) (.portQuery p n) <| sendPool (.port p) (.portQuery p n) <|
        sendLease (.port p) (.portQuery p n) <| sendNotify (.port p) (.portQuery p n) <|
          (s.setPort p ((s.port p).awaiting Req.portStatus.code f.tag 5)).setLinks { s.links with
            queries := upd s.links.queries p (sel s.links.queries p ++ [n]) }) := by
  simp only [exec, execPortStatus, named]
  rw [takeFrame_of_carry stands fresh (.inr rfl), startExec_setPort]
  rfl

end

/-! ### The places of a query -/

section
variable {p a n : Port} {payload : List Byte} {s : State}

theorem exec_statusQuery_controller {rest : List Port} (h : sel s.links.queries p = n :: rest) :
    exec (.statusQuery p .controller) s = .next (answer p (.part (controllerPart (s.port n)))
      (s.setLinks { s.links with queries := upd s.links.queries p rest })) := by
  simp only [exec, execStatusQuery, h]

theorem exec_statusQuery_config {rest : List ConfigMsg}
    (h : s.links.toConfig.sent (.port p) = .portQuery a n :: rest) :
    exec (.statusQuery p .config) s =
      .next (answer a (.part (.claim (s.config.holder == some n))) (restConfig (.port p) rest s)) := by
  simp only [exec, execStatusQuery, h]

theorem exec_statusQuery_pool_port {rest : List PoolMsg}
    (h : s.links.toPool.sent (.port p) = .portQuery a n :: rest) :
    exec (.statusQuery p .pool) s = .next (answer a (.part (poolPart s.pool n)) (restPool (.port p) rest s)) := by
  simp only [exec, execStatusQuery, h]

theorem exec_statusQuery_pool_counts {rest : List PoolMsg}
    (h : s.links.toPool.sent (.port p) = .poolQuery a payload :: rest) :
    exec (.statusQuery p .pool) s =
      .next (answer a (.part (poolStatusPart payload (countsPart s.pool))) (restPool (.port p) rest s)) := by
  simp only [exec, execStatusQuery, h]

theorem exec_statusQuery_lease_port {rest : List LeaseMsg}
    (h : s.links.toLease.sent (.port p) = .portQuery a n :: rest) :
    exec (.statusQuery p .lease) s = .next (answer a (.part (leasePart s.leases n)) (restLease (.port p) rest s)) := by
  simp only [exec, execStatusQuery, h]

theorem exec_statusQuery_lease_timeBase {rest : List LeaseMsg}
    (h : s.links.toLease.sent (.port p) = .poolQuery a payload :: rest) :
    exec (.statusQuery p .lease) s = .next (answer a (.part (poolStatusPart payload (.timeBase s.leases.timeBase)))
      (restLease (.port p) rest s)) := by
  simp only [exec, execStatusQuery, h]

theorem exec_statusQuery_notify {rest : List NotifyMsg}
    (h : s.links.toNotify.sent (.port p) = .portQuery a n :: rest) :
    exec (.statusQuery p .notify) s = .next (answer a (.part (.notes (sel s.notify.queues n).entries.length))
      (restNotify (.port p) rest s)) := by
  simp only [exec, execStatusQuery, h]

theorem poolStatusPart_eq (payload : List Byte) (part : StatusPart) :
    poolStatusPart payload part = if payload ≠ [] then .misfit else part :=
  (ite_not ..).symm

end

end Sys2Proof.Machine
end

section
/-! The statement about status requests. -/

namespace Sys2Proof.Machine

/-- Settles O51: the frames by their payload, the queries place by place; a QueueStatus by the reset hold and its payload,
and its report field by field. -/
theorem statusRequestsAnswered : Obligations.StatusRequestsAnswered := by
  refine ⟨fun s p f => ⟨fun stands fresh => exec_poolStatus_of_fresh stands fresh, fun stands fresh => ?_⟩,
    fun s p n => ⟨fun _ h => exec_statusQuery_controller h, fun _ h => exec_statusQuery_config h,
      fun _ h => exec_statusQuery_pool_port h, fun l _ h => ?_, fun _ h => exec_statusQuery_lease_port h,
      fun l _ h => ?_, fun _ h => exec_statusQuery_notify h⟩,
    fun s p payload rest h => ?_, fun _ _ => parsePort_eq_some_iff, fun q r => ?_, fun _ _ => ⟨rfl, rfl⟩⟩
  · cases named : parsePort f.payload with
    | none => exact exec_portStatus_of_misfit stands fresh named
    | some n => exact exec_portStatus_of_port stands fresh named
  · rw [exec_statusQuery_pool_counts h, poolStatusPart_eq]
    rfl
  · rw [exec_statusQuery_lease_timeBase h, poolStatusPart_eq]
  · rw [exec_queueStatus_taken h]
    refine congrArg _ (ite_congr rfl (fun _ => rfl) fun _ => ?_)
    show judgeStatus p payload _ = _
    cases read : parseQueue payload with
    | none => simp only [judgeStatus, read]
    | some q => simp only [judgeStatus, read, queue_restQueue]
  · rw [BitVec.ofNat_toNat]
    simp only [statusBytes, Queue.occupancy, Queue.queued, Queue.urgents, Queue.normals, byte1, List.append_assoc,
      List.cons_append, List.nil_append]
    generalize r.deadLetter = target, r.list = list
    cases target <;> cases list <;> rfl

end Sys2Proof.Machine
end

section
/-! SUPPORT. A step by the queue of commands (assumption 4), and the ports a command does not reach. -/

namespace Sys2Proof.Machine

/-! ### The queue of commands -/

theorem step_of_pending_nil {s : State} (idle : s.pending = []) : step s = .next s := by
  rw [step, idle]

theorem step_of_pending_cons {s : State} {c : Instr} {rest : List Instr} (front : s.pending = c :: rest) :
    step s = exec c { s with pending := rest } := by
  rw [step, front]

/-! ### The ports out of a command's reach -/

theorem State.port_eq_of_ports_eq_upd {s t : State} {p k : Port} {c : PortCtl} (only : t.ports = upd s.ports p c)
    (other : p ≠ k) : t.port k = s.port k := by
  rw [State.port, only, sel_upd_ne _ _ other, State.port]

theorem exec_port_of_unreached {c : Instr} {s t : State} {p : Port} (running : c ≠ .deviceReset)
    (unreached : controllerOf c ≠ some p) (h : exec c s = .next t) : t.port p = s.port p := by
  obtain ⟨u, hu, scope⟩ := exec_scope c s
  obtain rfl : u = t := by simpa [hu] using h
  rcases ports_eq_or_controllerOf scope with same | ⟨k, reaches, only⟩ | reset | rfl
  · rw [State.port, same, State.port]
  · have other : k ≠ p := fun same => unreached (same ▸ reaches)
    exact State.port_eq_of_ports_eq_upd only other
  · exact absurd reset running
  · cases h
    rfl

end Sys2Proof.Machine
end

section
/-! The statements about the whole part: its queue of commands, and the ports that a command does not reach. -/

namespace Sys2Proof.Machine

/-- Settles O53: by its scope a command rewrites one controller at most, that of `controllerOf`. DEVICE_RESET is the
exception; RESET_RELEASE, whose scope is open too, leaves the ports by its meaning. -/
theorem otherPortsUntouched : Obligations.OtherPortsUntouched :=
  fun _ _ _ _ running unreached h => exec_port_of_unreached running unreached h

/-- Settles O52: one equation of `step` for each shape of the queue. -/
theorem stepTakesTheFrontCommand : Obligations.StepTakesTheFrontCommand :=
  ⟨fun _ _ _ front => step_of_pending_cons front, fun _ idle => step_of_pending_nil idle⟩

end Sys2Proof.Machine
end
